-- ==== Sys2Proof/Word.lean ====
section
/-!
DEFINITION. The word types of the part: link words, medium words and samples.
-/

namespace Sys2Proof

/-- A word of a master link: every word a master exchanges with the part is 32 bits wide (chapter 11). -/
abbrev Word := BitVec 32

/-- The tag of a command, 0 to 255 (R148). -/
abbrev Tag := BitVec 8

/-- One stored sample, a 10-bit value as scanned (R2). -/
abbrev Sample := BitVec 10

/-- The 64 data bits of one medium word (R2). -/
abbrev WordData := BitVec 64

/-- A whole medium word, 64 data bits and 8 check bits (R2).  As an error pattern, bit i is set when bit i of the word
has gone wrong; bits 63 to 0 are the data bits, bits 71 to 64 the check bits. -/
abbrev MediumWord := BitVec 72

end Sys2Proof
end

