-- ==== Sys2Proof/Syntax.lean ====
section
/-!
DEFINITION. The rows of the table of operations and events, one constructor of `Instr` each, with the operands a
row has: for a command its port, its tag and its payload words (R162); for an event of a link the port and the record;
for the end of a burst what the medium answered.
-/

namespace Sys2Proof

/-- One of the two master ports. -/
inductive Port where
  | a
  | b
deriving DecidableEq, Repr, Inhabited

/-- A record of a link on its way in: its header word and its payload (R148, R149). -/
structure InRecord where
  header : Word
  payload : List Word
deriving DecidableEq, Repr, Inhabited

/-- What has gone wrong in one medium word of a read: the word's number, 0 to 4,095, and the bits that are wrong. -/
structure WordError where
  word : Nat
  mask : MediumWord
deriving DecidableEq, Repr, Inhabited

/-- How a read burst ends (R4): the medium answers in time, and `errors` lists the words read with wrong bits (a word not
listed reads as it was written), or the burst ends MEDIUM_FAULT. -/
inductive ReadEnd where
  | delivered (errors : List WordError)
  | mediumFault
deriving DecidableEq, Repr, Inhabited

/-- How a write burst ends (R4). -/
inductive WriteEnd where
  | done
  | mediumFault
deriving DecidableEq, Repr, Inhabited

/-- How a probe burst ends (R7): an attempt completed in time, or both attempts timed out. -/
inductive ProbeEnd where
  | succeeded
  | failed
deriving DecidableEq, Repr, Inhabited

/-- The commands and events of the part, one constructor for each row of the table. -/
inductive Instr where
  -- Port A commands
  | openEdition (port : Port) (tag : Tag) (key era resale : Word)
  | defineObject (port : Port) (tag : Tag) (key kind sequence width height polarity : Word)
  | closeEdition (port : Port) (tag : Tag) (key : Word)
  | amendEdition (port : Port) (tag : Tag) (key era resale : Word)
  | withdrawEdition (port : Port) (tag : Tag) (key : Word)
  | putWindow (port : Port) (tag : Tag) (object x0 x1 y0 y1 axis mirror packing : Word)
  | serviceBank (port : Port) (tag : Tag) (bank : Word)
  | lockEdition (port : Port) (tag : Tag) (key : Word)
  | unlockEdition (port : Port) (tag : Tag) (key : Word)
  | scrubStrobe (port : Port) (tag : Tag)
  | scrubBurst (port : Port) (tag : Tag) (count : Word)
  | takeDamage (port : Port) (tag : Tag)
  | writeCurve (port : Port) (tag : Tag) (set polarity : Word) (knots : List Word) (lift : Word)
  | writeFill (port : Port) (tag : Tag) (set level : Word)
  -- Port B commands
  | orderReprint (port : Port) (tag : Tag) (object sizeClass rightsClass quantity account : Word)
  | takeCharge (port : Port) (tag : Tag)
  | openAccount (port : Port) (tag : Tag) (account : Word)
  | suspendAccount (port : Port) (tag : Tag) (account : Word)
  | resumeAccount (port : Port) (tag : Tag) (account : Word)
  | closeAccount (port : Port) (tag : Tag) (account : Word)
  | setDiscount (port : Port) (tag : Tag) (account discount : Word)
  | readTally (port : Port) (tag : Tag) (account : Word)
  | clearTally (port : Port) (tag : Tag) (account : Word)
  | writeSchedule (port : Port) (tag : Tag) (item index value : Word)
  | setYear (port : Port) (tag : Tag) (year : Word)
  -- commands of both ports
  | readStatus (port : Port) (tag : Tag)
  | readEdition (port : Port) (tag : Tag) (key : Word)
  | readObject (port : Port) (tag : Tag) (object selection : Word)
  | listEditions (port : Port) (tag : Tag) (start : Word)
  | render (port : Port) (tag : Tag) (object x0 x1 y0 y1 scale curve : Word)
  | readCurve (port : Port) (tag : Tag) (set : Word)
  | readSchedule (port : Port) (tag : Tag)
  | unknownCommand (port : Port) (header : Word) (payload : List Word)
  -- events of the links
  | commandRecordReceived (port : Port) (header : Word) (payload : List Word)
  | dataRecordReceived (port : Port) (header : Word) (payload : List Word)
  | cancel (port : Port) (record : InRecord)
  | restart (port : Port) (record : InRecord)
  | strayRecord (port : Port) (header : Word) (payload : List Word)
  | recordTaken (port : Port)
  -- reset, strap word and preparation
  | resetAsserted
  | resetReleased
  | latchStrapWord (bit : Bool)
  | prepProbeComplete (ending : ProbeEnd)
  | prepMarkerReadComplete (ending : ReadEnd)
  | formatWriteComplete (ending : WriteEnd)
  | loadReadComplete (ending : ReadEnd)
  -- power warning, burst ends and upkeep
  | powerWarnAsserted
  | powerWarnReleased
  | burstTimeout
  | readMergeComplete (ending : ReadEnd)
  | storeWriteComplete (ending : WriteEnd)
  | renderReadComplete (port : Port) (ending : ReadEnd)
  | probeComplete (ending : ProbeEnd)
  | scrubTimerExpiry
  | scrubVisitComplete (ending : ReadEnd)
  | writebackComplete (ending : WriteEnd)
  | relocationReadComplete (ending : ReadEnd)
  | relocationWriteComplete (ending : WriteEnd)
  | catalogueFlushComplete (ending : WriteEnd)
  | billingFlushComplete (ending : WriteEnd)
  | carriedWriteBurstEnd (ending : WriteEnd)
  | outboundWordTaken (port : Port)
  | strapBitTaken (bit : Bool)
deriving DecidableEq, Repr

end Sys2Proof
end

