-- ==== Sys2Proof/Machine/Records.lean ====
section
/-!
DEFINITION. The records the part keeps, as plain data: editions and objects, slots, locks, damage, curves, the fee schedule,
accounts and journal entries, and the contents of a slot of the medium.
-/

namespace Sys2Proof

/-! ## Editions and objects (chapter 2) -/

/-- R26: the four parts of an edition key. -/
structure EditionKey where
  year : Nat
  month : Nat
  day : Nat
  issue : Nat
deriving DecidableEq, Repr, Inhabited

/-- R26: OPEN or CLOSED. -/
inductive EditionState where
  | opened
  | closed
deriving DecidableEq, Repr, Inhabited

/-- R26: the resale flag. -/
inductive Resale where
  | forSale
  | notForResale
deriving DecidableEq, Repr, Inhabited

/-- R28: PAGE or PHOTO. -/
inductive ObjectKind where
  | page
  | photo
deriving DecidableEq, Repr, Inhabited

/-- R28: PRINT or NEGATIVE. -/
inductive Polarity where
  | print
  | negative
deriving DecidableEq, Repr, Inhabited

/-- R47: the axis of a store's lines. -/
inductive Axis where
  | rows
  | columns
deriving DecidableEq, Repr, Inhabited

/-- R48: how samples are packed into the words of a data record. -/
inductive Packing where
  | pack3
  | pack2
deriving DecidableEq, Repr, Inhabited

/-- R27: what the durable image holds of an edition, with its position in the edition table. -/
structure EditionImage where
  position : Nat
  key : EditionKey
  state : EditionState
  era : Nat
  resale : Resale
  revision : Nat
deriving DecidableEq, Repr, Inhabited

/-- R26: one entry of an edition's object list. -/
structure ObjectRef where
  number : Nat
  kind : ObjectKind
  sequence : Nat
deriving DecidableEq, Repr, Inhabited

/-- R26: an edition record.  The object list and the written-under-lock mark are volatile (R27). -/
structure EditionRec extends EditionImage where
  objects : List ObjectRef
  writtenUnderLock : Bool
deriving DecidableEq, Repr, Inhabited

/-- R28: one entry of a tile map. -/
structure MapEntry where
  slot : Nat
  written : Bool
deriving DecidableEq, Repr, Inhabited

/-- R28: what the durable image holds of an object. -/
structure ObjectImage where
  number : Nat
  kind : ObjectKind
  key : EditionKey
  sequence : Nat
  width : Nat
  height : Nat
  polarity : Polarity
  tileMap : List MapEntry
  writtenCount : Nat
deriving DecidableEq, Repr, Inhabited

/-- R28: an object record.  The impaired tile count and the withheld mark are volatile. -/
structure ObjectRec extends ObjectImage where
  impairedCount : Nat
  withheld : Bool
deriving DecidableEq, Repr, Inhabited

/-! ## Slots (chapter 1) -/

/-- R8. -/
inductive SlotState where
  | free
  | assigned
  | retired
deriving DecidableEq, Repr, Inhabited

/-- R8: who a slot belongs to.  A relocation target names the slot its relocation moves (R94). -/
inductive SlotOwner where
  | none
  | tile (object index : Nat)
  | relocation (old : Nat)
  | group (g : Nat)
deriving DecidableEq, Repr, Inhabited

/-- R8: a slot table entry. -/
structure SlotEntry where
  state : SlotState
  owner : SlotOwner
  written : Bool
  damage : Bool
  count : Nat
  generation : BitVec 8
  relocationPending : Bool
deriving DecidableEq, Repr, Inhabited

/-- R13: the durable marks of one slot. -/
structure SlotMarks where
  slot : Nat
  retired : Bool
  damage : Bool
  count : Nat
deriving DecidableEq, Repr, Inhabited

/-- R5: the state of a bank. -/
inductive BankState where
  | online
  | suspect
  | offline
deriving DecidableEq, Repr, Inhabited

/-! ## Tone curves (chapter 7) and the fee schedule (chapter 8) -/

/-- R113: a tone curve of 9 knots, and its lift. -/
structure Curve where
  knots : List Nat
  lift : Int
deriving DecidableEq, Repr, Inhabited

/-- R113: a curve set. -/
structure CurveSet where
  print : Curve
  negative : Curve
  fill : Nat
deriving DecidableEq, Repr, Inhabited

/-- R117: the fee schedule. -/
structure Schedule where
  base : List Nat
  bound : List Nat
  surcharge : List Nat
  rights : List Nat
  damageDiscount : Nat
  minimum : Nat
deriving DecidableEq, Repr, Inhabited

/-! ## The billing area (chapter 9) -/

/-- R131. -/
inductive AccountState where
  | closed
  | opened
  | suspended
deriving DecidableEq, Repr, Inhabited

/-- R131: an account record. -/
structure Account where
  state : AccountState
  discount : Nat
  tally : Nat
  saturated : Bool
  orders : Nat
deriving DecidableEq, Repr, Inhabited

/-- R138. -/
inductive EntryState where
  | provisional
  | final
  | void
deriving DecidableEq, Repr, Inhabited

/-- R142: the grade of a charge. -/
inductive Grade where
  | full
  | reduced
deriving DecidableEq, Repr, Inhabited

/-- R138: a journal entry. -/
structure JournalEntry where
  sequence : BitVec 32
  account : Nat
  object : Nat
  key : EditionKey
  revision : Nat
  sizeClass : Nat
  rightsClass : Nat
  quantity : Nat
  band : Nat
  unit2 : Nat
  gross : Nat
  saturated : Bool
  damageDiscount : Nat
  minimum : Nat
  discount : Nat
  state : EntryState
  grade : Option Grade
  net : Nat
  discountClamped : Bool
  minApplied : Bool
deriving DecidableEq, Repr, Inhabited

/-- R13: the billing area, as the billing group holds it. -/
structure BillingImage where
  accounts : List Account
  journal : List JournalEntry
  sequence : BitVec 32
  year : Nat
deriving DecidableEq, Repr, Inhabited

/-- R13: the settings group. -/
structure SettingsImage where
  curves : List CurveSet
  schedule : Schedule
  year : Nat
deriving DecidableEq, Repr, Inhabited

/-! ## What a slot of the medium holds -/

/-- R21: the version a format marker names: the one this part writes, or another. -/
inductive MarkerVersion where
  | current
  | other
deriving DecidableEq, Repr, Inhabited

/-- R13: the content of a catalogue group.  The bits of these images are not given (chapter 11), so they are kept as the
records they stand for. -/
inductive GroupImage where
  | marker (version : MarkerVersion)
  | billing (image : BillingImage)
  | settings (image : SettingsImage)
  | editions (records : List EditionImage)
  | objects (records : List ObjectImage)
  | marks (records : List SlotMarks)
deriving DecidableEq, Repr, Inhabited

/-- What a slot of the medium holds: the data words of its last write (word number and data, a word not listed being all zero,
R2), the image of a catalogue group, or, after a write that ended MEDIUM_FAULT, content that is unknown (R4), named by a
number of its own. -/
inductive SlotContent where
  | words (ws : List (Nat × WordData))
  | image (g : GroupImage)
  | unknown (n : Nat)
deriving DecidableEq, Repr, Inhabited

/-- One row of a tile: column and sample, columns rising, a column not listed being 0 (R2). -/
abbrev TileRow := List (Nat × Sample)

/-- A tile as samples, row by row: row number and row, rows rising, a row not listed having every sample 0 (R2). -/
abbrev Tile := List (Nat × TileRow)

/-! ## Locks (chapter 5) and the damage list (chapter 6) -/

/-- R72. -/
inductive LockState where
  | pending
  | held
deriving DecidableEq, Repr, Inhabited

/-- R72: a lock entry.  Its holder is Port A in every entry. -/
structure LockEntry where
  key : EditionKey
  state : LockState
  holder : Port
deriving DecidableEq, Repr, Inhabited

/-- R97: an entry of the damage list. -/
structure DamageEntry where
  object : Nat
  key : EditionKey
  kind : ObjectKind
  impaired : Nat
  firstDamaged : Option Nat
deriving DecidableEq, Repr, Inhabited

end Sys2Proof
end

