-- ==== Sys2Proof/Config.lean ====
section
/-!
DEFINITION. What an implementation fixes, and the free values: constants without a body, of which nothing can be proved.
Each stands where the spec leaves a value open; the number each is applied to is a counter of the state, so that two uses are
not tied to one another.
-/

namespace Sys2Proof.Config

/-- R2: the 8 check bits of a non-zero data word.  The check code is not given beyond what it corrects and detects. -/
opaque checkBits : WordData → BitVec 8

/-- R3: what a word with three or more wrong bits is classed as: 0 clean, 1 corrected, any other number double. -/
opaque heavyClass : Nat → Nat → Nat

/-- R3: what a word with three or more wrong bits delivers when it is classed corrected. -/
opaque miscorrected : Nat → Nat → WordData

/-- R4: the data words of a slot whose last write ended MEDIUM_FAULT. -/
opaque unknownWord : Nat → Nat → WordData

/-- R4, R21: what slot 0 holds after a failed write of the marker: no pattern, or the pattern with a version. -/
opaque unknownMarker : Nat → Option MarkerVersion

/-! What a catalogue group reads as when its content is unknown, record by record: the first number names the content, the second
the record's place in its table.  Machine/Preparation.lean brings each into its place and into the ranges its rule sets. -/

/-- R4, R21: the record of an account. -/
opaque unknownAccount : Nat → Nat → Account

/-- R4, R21: a place of the journal, perhaps without an entry. -/
opaque unknownEntry : Nat → Nat → Option JournalEntry

/-- R4, R21: the sequence number. -/
opaque unknownSequence : Nat → BitVec 32

/-- R4, R21: the current year, as the group of the second number holds it. -/
opaque unknownYear : Nat → Nat → Nat

/-- R4, R21: a curve set. -/
opaque unknownCurveSet : Nat → Nat → CurveSet

/-- R4, R21: the fee schedule. -/
opaque unknownSchedule : Nat → Schedule

/-- R4, R21: a position of the edition table, perhaps without a record. -/
opaque unknownEdition : Nat → Nat → Option EditionImage

/-- R4, R21: an object number, perhaps without a record. -/
opaque unknownObject : Nat → Nat → Option ObjectImage

/-- R4, R21: the durable marks of a slot. -/
opaque unknownMark : Nat → Nat → SlotMarks

/-- R34, R163: the object number field of an INCOMPLETE refusal that names no object. -/
opaque unnamedObject : Nat → BitVec 13

/-- R66: which of the requests that appear together at an idle store is taken first. -/
opaque firstRequest : Nat → Nat

/-- R150: which port goes first when both can take a record from their input queues at the same moment. -/
opaque firstPort : Nat → Port

end Sys2Proof.Config
end

