-- ==== Sys2Proof/Decode.lean ====
section
/-!
DEFINITION. The command a table word spells.  No row of spec/opcode_table.json gives its command bits of an instruction word
(the rows are operations and events of a block, each with an empty list of fields), so no word spells one.
Beside it stand the fields of an inbound header word, which say what a record of a link is (R160, R161).
How a record's payload words are read is Machine/Operands.lean, how a command code selects its command Machine/Engine.lean.
-/

namespace Sys2Proof

/-- The command that a word of the table's bits spells: none, since no row of the table gives bits. -/
def decodeTableWord (_nbits _w : Nat) : Option Instr := none

/-- The kind field of a header word, bits 31 to 29 (R160). -/
def headerKind (h : Word) : Nat := h.toNat / 2 ^ 29 % 8

/-- The payload length field of a header word, bits 28 to 20 (R160). -/
def headerLength (h : Word) : Nat := h.toNat / 2 ^ 20 % 2 ^ 9

/-- The command code field of a header word, bits 13 to 8 (R160). -/
def headerCode (h : Word) : Nat := h.toNat / 2 ^ 8 % 2 ^ 6

/-- R148: the four kinds of record a master sends. -/
inductive InboundKind where
  | command
  | data
  | cancel
  | restart
deriving DecidableEq, Repr

/-- R161: kinds 1 to 4 are COMMAND, DATA, CANCEL and RESTART; kinds 0, 5, 6 and 7 are received as COMMAND records.  No other bit of
the header is examined. -/
def inboundKind (h : Word) : InboundKind :=
  match headerKind h with
  | 2 => .data
  | 3 => .cancel
  | 4 => .restart
  | _ => .command

/-- R148, R161: the row that the arrival of a record on a link is, by the kind field of its header. -/
def receivedRow (p : Port) (h : Word) (payload : List Word) : Instr :=
  match inboundKind h with
  | .command => .commandRecordReceived p h payload
  | .data => .dataRecordReceived p h payload
  | .cancel => .cancel p ⟨h, payload⟩
  | .restart => .restart p ⟨h, payload⟩

/-- R161: kinds 1, 0, 5, 6 and 7 are received as COMMAND records. -/
def headerIsCommand (h : Word) : Bool := headerKind h ∉ [2, 3, 4]

/-- R161: kind 2 is an inbound DATA record. -/
def headerIsData (h : Word) : Bool := headerKind h == 2

/-- R151 check 1: the record was received with kind 1 and its code names one of the 32 commands. -/
def headerIsKnown (h : Word) : Bool := headerKind h == 1 && 1 ≤ headerCode h && headerCode h ≤ 32

end Sys2Proof
end

