-- ==== Sys2Proof/Machine/Assoc.lean ====
section
/-!
DEFINITION. Sparse tables as sorted lists: a list of (number, value) pairs with strictly rising numbers, in which no entry
equals what an unlisted number reads as.  The medium, the slot table and the samples of a tile are kept so, hence equal
tables are equal data.
-/

namespace Sys2Proof.Assoc

variable {α : Type}

/-- What number `k` reads as; `d k` is what it reads as when it is not listed. -/
def get (d : Nat → α) : List (Nat × α) → Nat → α
  | [], k => d k
  | (k', v) :: rest, k => if k = k' then v else get d rest k

/-- Write `v` at number `k`, keeping the canonical form: writing what an unlisted number reads as takes the entry out. -/
def put [DecidableEq α] (d : Nat → α) : List (Nat × α) → Nat → α → List (Nat × α)
  | [], k, v => if v = d k then [] else [(k, v)]
  | (k', v') :: rest, k, v =>
    if k < k' then (if v = d k then (k', v') :: rest else (k, v) :: (k', v') :: rest)
    else if k = k' then (if v = d k then rest else (k, v) :: rest)
    else (k', v') :: put d rest k v

/-- Every number of the list is above `n`, numbers rise strictly and no entry is a default. -/
def wfAbove [DecidableEq α] (d : Nat → α) : Option Nat → List (Nat × α) → Bool
  | _, [] => true
  | lo, (k, v) :: rest =>
    (match lo with
      | none => true
      | some n => decide (n < k)) && decide (v ≠ d k) && wfAbove d (some k) rest

/-- The canonical form of a table. -/
def wf [DecidableEq α] (d : Nat → α) (l : List (Nat × α)) : Bool := wfAbove d none l

/-- Insert into a list sorted by `rank`, before the first element of a greater rank. -/
def insertBy {β : Type} (rank : β → Nat) (x : β) : List β → List β
  | [] => [x]
  | y :: rest => if rank x < rank y then x :: y :: rest else y :: insertBy rank x rest

/-- Sort by `rank`. -/
def sortBy {β : Type} (rank : β → Nat) : List β → List β
  | [] => []
  | x :: rest => insertBy rank x (sortBy rank rest)

/-- Add a number to a strictly rising list of numbers. -/
def addNat (n : Nat) : List Nat → List Nat
  | [] => [n]
  | m :: rest => if n < m then n :: m :: rest else if n = m then m :: rest else m :: addNat n rest

end Sys2Proof.Assoc
end

