-- ==== Sys2Proof/Machine/State.lean ====
section
/-!
DEFINITION. The state of the part as plain data, the reasons a step can stop, and the state right after RESET.
-/

namespace Sys2Proof.Machine

open Sys2Proof

/-! ## Records of the links (chapters 10 and 11) -/

/-- R153, R160. -/
inductive Status where
  | done
  | short
  | cancelled
  | refused
  | restarted
deriving DecidableEq, Repr, Inhabited

/-- R153, R160: the causes. -/
inductive Cause where
  | notReady
  | powerFail
  | unknownCommand
  | badField
  | badDigit
  | wrongPort
  | noEdition
  | noObject
  | editionExists
  | wrongState
  | editionLocked
  | notLocked
  | lockConflict
  | lockTableFull
  | tableFull
  | noSpace
  | windowRange
  | incomplete
  | notForResale
  | accountState
  | journalFull
  | catalogueOffline
  | mediumFault
deriving DecidableEq, Repr, Inhabited

/-- R153, R163: the notes. -/
inductive Note where
  | overrun
  | scaled
  | clamped
  | ignored
  | absorbed
  | empty
  | noneReady
deriving DecidableEq, Repr, Inhabited

/-- R153: a response.  Its results are the payload words after the notes word (R163). -/
structure Response where
  tag : Tag
  status : Status
  cause : Option Cause
  notes : List Note
  results : List Word
deriving DecidableEq, Repr, Inhabited

/-- R20: the device state. -/
inductive DeviceState where
  | preparing
  | ready
  | flushing
  | halted
  | faulted
deriving DecidableEq, Repr, Inhabited

/-- R41: a bank's state as it is reported. -/
inductive ReportedBank where
  | configured (state : BankState)
  | notConfigured
deriving DecidableEq, Repr, Inhabited

/-- R155: a notice. -/
inductive Notice where
  | bankState (bank : Nat) (state : ReportedBank) (banks : List ReportedBank) (merged : Bool)
  | deviceState (state : DeviceState) (merged : Bool)
  | strayData (length count : Nat) (merged : Bool)
deriving DecidableEq, Repr, Inhabited

/-- R154: a record in a response queue. -/
inductive OutRecord where
  | response (r : Response)
  | data (words : List Word)
  | notice (n : Notice)
deriving DecidableEq, Repr, Inhabited

/-- R155: what the STRAY_DATA mark holds: the length of the latest record discarded and the count. -/
structure StrayMark where
  length : Nat
  count : Nat
deriving DecidableEq, Repr, Inhabited

/-! ## Operations in flight -/

/-- R17: an operation waiting for a billing flush: none that carries its change has started, or one is in flight. -/
inductive FlushWait where
  | waiting
  | inBurst
deriving DecidableEq, Repr, Inhabited

/-- R51. -/
inductive StorePhase where
  | read
  | fill
  | write
deriving DecidableEq, Repr, Inhabited

/-- How a store that has been told to end will end (R60, R61). -/
inductive StoreEnding where
  | short
  | cancelled
deriving DecidableEq, Repr, Inhabited

/-- R46: what the band buffer holds for one tile of a store's band.  `needsRead` is fixed when the band is entered (R52). -/
structure BandTile where
  index : Nat
  full : Bool
  needsRead : Bool
  read : Bool
  taken : Nat
  writeDone : Bool
  samples : Tile
deriving DecidableEq, Repr, Inhabited

/-- R46: the context of a store.  `wordsTaken` counts the words wholly taken from the data record at the head of the input
queue (R54), `band` is the tile-row or tile-column of the band in the buffer. -/
structure StoreCtx where
  tag : Tag
  object : Nat
  x0 : Nat
  x1 : Nat
  y0 : Nat
  y1 : Nat
  axis : Axis
  mirror : Bool
  packing : Packing
  count : Nat
  cursor : Nat
  packPhase : Nat
  wordsTaken : Nat
  band : Nat
  bandPhase : StorePhase
  tiles : List BandTile
  committed : Nat
  overrun : Bool
  ending : Option StoreEnding
deriving DecidableEq, Repr, Inhabited

/-- R105: the class of a tile taken by a render. -/
inductive TileClass where
  | fill
  | computed (samples : Tile)
deriving DecidableEq, Repr, Inhabited

/-- R101: the phases of a render's band. -/
inductive RenderPhase where
  | read
  | emit
deriving DecidableEq, Repr, Inhabited

/-- R101: the context of a render.  `classes` holds the tiles of the band taken so far with their class (R105), `asked` is set
when the turn of the next tile has come and it needs its read, `building` is the word being built, `record` the words of the
record being built. -/
structure RenderCtx where
  tag : Tag
  key : EditionKey
  object : Nat
  x0 : Nat
  x1 : Nat
  y0 : Nat
  y1 : Nat
  scale : Nat
  polarity : Polarity
  width : Nat
  height : Nat
  count : Nat
  band : Nat
  bandPhase : RenderPhase
  classes : List (Nat × TileClass)
  asked : Bool
  cursor : Nat
  packPhase : Nat
  building : Word
  record : List Word
  wordsPlaced : Nat
  impairedMet : Nat
  unwrittenMet : Nat
  correctedWords : Nat
  notes : List Note
  cancelled : Bool
deriving DecidableEq, Repr, Inhabited

/-- R140, R142: where an order stands. -/
inductive OrderStage where
  | entryFlush (wait : FlushWait)
  | rendering
  | finalFlush (wait : FlushWait)
deriving DecidableEq, Repr, Inhabited

/-- An order in flight (R140): the sequence number of its entry, its stage, and the context of its render. -/
structure OrderCtx where
  sequence : BitVec 32
  stage : OrderStage
  render : RenderCtx
deriving DecidableEq, Repr, Inhabited

/-- R150: the operation in flight on a port.  In `respond` the response is made and waits for a place; `edition` is the
edition a render or an order is still on (R75), `store` tells a store's response (R63). -/
inductive Op where
  | idle
  | store (c : StoreCtx)
  | render (c : RenderCtx)
  | order (o : OrderCtx)
  | lock (tag : Tag) (key : EditionKey)
  | probe (tag : Tag) (bank : Nat) (granted : Bool)
  | flushWait (response : Response) (wait : FlushWait)
  | respond (response : Response) (edition : Option EditionKey) (store : Bool)
deriving DecidableEq, Repr, Inhabited

/-- R157: a RESTART whose response is not yet queued: its operation is ending, or its response waits for a place. -/
inductive RestartStage where
  | none
  | ending
  | answering
deriving DecidableEq, Repr, Inhabited

/-- R102: the snapshot of a curve set that the tone unit keeps for a port's render. -/
structure Snapshot where
  set : Nat
  curves : CurveSet
deriving DecidableEq, Repr, Inhabited

/-- A port engine (chapter 10): its input queue and the one record held outside it, its response queue and how many words of
the head record have left, its pending marks, its operation in flight, its snapshot, and a RESTART under way. -/
structure PortEngine where
  inq : List InRecord
  held : Option InRecord
  outq : List OutRecord
  sent : Nat
  bankMark : Option Nat
  deviceMark : Bool
  strayMark : Option StrayMark
  op : Op
  snapshot : Option Snapshot
  restart : RestartStage
deriving DecidableEq, Repr, Inhabited

/-! ## Medium interface, arbiter and upkeep engine -/

/-- What a burst in flight is for, with what its requester needs at its end.  `dropped` tells that a withdrawal has released the
slot (R37), `noCopy` that the part has entered FLUSHING since the burst started, so that no copy is placed (R84). -/
inductive BurstWork where
  | prepProbe
  | prepMarker
  | prepFormat
  | prepLoad
  | storeRead (tile : Nat)
  | storeWrite (tile : Nat)
  | renderRead (port : Port)
  | probe
  | scrub (generation : BitVec 8) (noCopy : Bool)
  | writeback (kept : Nat) (dropped : Bool)
  | relocationRead (target : Nat) (generation : BitVec 8) (dropped noCopy : Bool)
  | relocationWrite (old : Nat) (dropped : Bool)
  | catalogueFlush
  | billingFlush
  | carried (suspect : Bool)
deriving DecidableEq, Repr, Inhabited

/-- The burst in flight on the medium bus (R4): its work, its slot, whether it is in its retry, the burst timer in
microseconds, and, for a write, the content it writes. -/
structure Burst where
  work : BurstWork
  slot : Nat
  retry : Bool
  timer : Nat
  content : Option SlotContent
deriving DecidableEq, Repr, Inhabited

/-- R64: a requester of the store. -/
inductive Requester where
  | port (p : Port)
  | upkeep
deriving DecidableEq, Repr, Inhabited

/-- R65: the arbiter's state.  `deciding` is the model's own: a burst has ended and the decision of R66 is due. -/
structure Arbiter where
  busy : Bool
  selected : Option Requester
  lastMaster : Option Port
  runCount : Nat
  deciding : Bool
deriving DecidableEq, Repr, Inhabited

/-- R82: the purpose of the copy in the upkeep tile buffer. -/
inductive CopyPurpose where
  | writeback (kept : Nat)
  | relocation (target : Nat)
deriving DecidableEq, Repr, Inhabited

/-- R82: the copy in the upkeep tile buffer. -/
structure Copy where
  slot : Nat
  generation : BitVec 8
  samples : Tile
  purpose : CopyPurpose
deriving DecidableEq, Repr, Inhabited

/-- R82: the kind of the last upkeep burst. -/
inductive UpkeepBurst where
  | billingFlush
  | catalogueFlush
  | scrubVisit
  | writeback
  | relocationRead
  | relocationWrite
deriving DecidableEq, Repr, Inhabited

/-- R82: the upkeep engine's state.  The interval timer counts microseconds. -/
structure Upkeep where
  cursor : Nat
  due : Bool
  burstCount : Nat
  timerRunning : Bool
  timer : Nat
  buffer : Option Copy
  lastBurst : Option UpkeepBurst
  lastGroup : Option Nat
deriving DecidableEq, Repr, Inhabited

/-- R21: where preparation stands. -/
inductive PrepStage where
  | strap (bits : List Bool)
  | probe (bank : Nat)
  | marker
  | format (slot : Nat)
  | load (slot : Nat)
  | finished
deriving DecidableEq, Repr, Inhabited

/-! ## The state -/

/-- The whole state of the part and of the medium attached to it.  `pending` is the queue of commands and events that wait,
first in, first out; `freeCount` is the model's own counter behind the free values. -/
structure State where
  pending : List Instr
  -- device control and pins
  resetAsserted : Bool
  powerWarn : Bool
  device : DeviceState
  prep : PrepStage
  strap : BitVec 16
  -- medium and medium interface
  medium : List (Nat × SlotContent)
  banks : List BankState
  burst : Option Burst
  -- catalogue
  editions : List EditionRec
  objects : List ObjectRec
  dirty : List Nat
  -- slot manager
  slots : List (Nat × SlotEntry)
  pool : List Nat
  relocations : List Nat
  -- store arbiter and upkeep engine
  arbiter : Arbiter
  upkeep : Upkeep
  -- lock table and damage list
  locks : List (Option LockEntry)
  damage : List DamageEntry
  overflow : Bool
  -- tone unit and fee unit
  curves : List CurveSet
  schedule : Schedule
  year : Nat
  -- billing area
  accounts : List Account
  journal : List JournalEntry
  sequence : BitVec 32
  billingYear : Nat
  billingPending : Bool
  -- port engines
  portA : PortEngine
  portB : PortEngine
  -- the model's own
  freeCount : Nat
deriving DecidableEq, Repr

/-- Why a step stops.  Each is raised by the meaning of an event that the part's own state rules out: nothing of the spec says
what the part does then, since the event cannot occur on the pins.  Stopping there is safe: no run of the hardware is cut. -/
inductive Fault where
  /-- Raised by a burst end or BURST_TIMEOUT when no burst of that kind is in flight (R4: the timer does not run while the
  medium bus is idle).  Safe. -/
  | noSuchBurst
  /-- Raised by RECORD_TAKEN and OUTBOUND_WORD_TAKEN when the port presents no such word (R154).  Safe. -/
  | nothingPresented
  /-- Raised by SCRUB_TIMER_EXPIRY when the interval timer is stopped (R84, R85).  Safe. -/
  | timerStopped
  /-- Raised by LATCH_STRAP_WORD when fewer than fifteen bits have been taken (R165).  Safe. -/
  | strapIncomplete
deriving DecidableEq, Repr

/-- Why a step is refused. -/
inductive Refusal where
  /-- Raised by an arm of exec whose row has no meaning yet.  Safe. -/
  | notModelled (mnemonic : String)
deriving DecidableEq, Repr

/-! ## Values after RESET -/

/-- R113: the default curve, O[k] = min(255, 32k), lift 0. -/
def Curve.blank : Curve := ⟨[0, 32, 64, 96, 128, 160, 192, 224, 255], 0⟩

/-- R113: the default curve set. -/
def CurveSet.blank : CurveSet := ⟨Curve.blank, Curve.blank, 128⟩

/-- R117: the default fee schedule. -/
def Schedule.blank : Schedule :=
  { base := List.replicate 8 0, bound := List.replicate 8 400, surcharge := List.replicate 8 0,
    rights := List.replicate 4 100, damageDiscount := 0, minimum := 0 }

/-- R131: an account of a blank archive. -/
def Account.blank : Account := ⟨.closed, 0, 0, false, 0⟩

/-- R159: a port engine after RESET. -/
def PortEngine.reset : PortEngine :=
  { inq := [], held := none, outq := [], sent := 0, bankMark := none, deviceMark := false, strayMark := none,
    op := .idle, snapshot := none, restart := .none }

/-- R65: the arbiter after RESET. -/
def Arbiter.reset : Arbiter := ⟨false, none, none, 0, false⟩

/-- R82: the upkeep engine after RESET. -/
def Upkeep.reset : Upkeep :=
  { cursor := 0, due := false, burstCount := 0, timerRunning := false, timer := 0, buffer := none,
    lastBurst := none, lastGroup := none }

/-- The part right after the release of RESET (R20, R21, R25, R165): PREPARING, waiting for its first strap bit, every volatile
item at its reset value, a medium that has never been written (R2), and POWER_WARN released. -/
def State.reset : State :=
  { pending := []
    resetAsserted := false
    powerWarn := false
    device := .preparing
    prep := .strap []
    strap := 0
    medium := []
    banks := [.online, .online, .online, .online]
    burst := none
    editions := []
    objects := []
    dirty := []
    slots := []
    pool := []
    relocations := []
    arbiter := Arbiter.reset
    upkeep := Upkeep.reset
    locks := List.replicate 8 none
    damage := []
    overflow := false
    curves := List.replicate 8 CurveSet.blank
    schedule := Schedule.blank
    year := 2000
    accounts := List.replicate 64 Account.blank
    journal := []
    sequence := 0
    billingYear := 2000
    billingPending := false
    portA := PortEngine.reset
    portB := PortEngine.reset
    freeCount := 0 }

end Sys2Proof.Machine
end

