-- ==== Sys2Proof/Machine/Operands.lean ====
section
/-!
DEFINITION. The forms of the payload words (R162): numbers, codes, edition keys, lifts, digit strings and field selections,
as they are read from a command and as they are written into a response.
-/

namespace Sys2Proof.Machine

open Sys2Proof

/-! ## Words read from a command -/

/-- R162: the field of the number and code forms, bits 15 to 0. -/
def numberOf (w : Word) : Nat := w.toNat % 2 ^ 16

/-- R162: an edition key, bits 11–0 year, 15–12 month, 20–16 day, 27–24 issue. -/
def keyOf (w : Word) : EditionKey :=
  { year := w.toNat % 2 ^ 12
    month := w.toNat / 2 ^ 12 % 2 ^ 4
    day := w.toNat / 2 ^ 16 % 2 ^ 5
    issue := w.toNat / 2 ^ 24 % 2 ^ 4 }

/-- R26: every part of the key is in its range.  The day is not checked against the month. -/
def keyInRange (k : EditionKey) : Bool :=
  1800 ≤ k.year && k.year ≤ 2199 && 1 ≤ k.month && k.month ≤ 12 && 1 ≤ k.day && k.day ≤ 31 && 1 ≤ k.issue && k.issue ≤ 9

/-- R26: keys are ordered by year, then month, then day, then issue; the rank is that order as a number, for keys in range. -/
def keyRank (k : EditionKey) : Nat := ((k.year * 16 + k.month) * 32 + k.day) * 16 + k.issue

/-- R162: a lift, bits 7–0 in two's complement. -/
def liftOf (w : Word) : Int := (w.setWidth 8).toInt

/-- R118: nibble `i` of a word, the digit of weight 10^i. -/
def nibble (w : Word) (i : Nat) : Nat := w.toNat / 16 ^ i % 16

/-- R118: every digit of a string of `n` digits is 0 to 9; nibbles above are not examined (R162). -/
def digitsGood (n : Nat) (w : Word) : Bool := (List.range n).all fun i => nibble w i ≤ 9

/-- R118: the value of a string of `n` digits, most significant digit in the highest nibble used. -/
def digitsValue (n : Nat) (w : Word) : Nat := (List.range n).foldr (fun i acc => acc + nibble w i * 10 ^ i) 0

/-- R162: kind PAGE 0, PHOTO 1. -/
def kindOf : Nat → Option ObjectKind
  | 0 => some .page
  | 1 => some .photo
  | _ => none

/-- R162: polarity PRINT 0, NEGATIVE 1. -/
def polarityOf : Nat → Option Polarity
  | 0 => some .print
  | 1 => some .negative
  | _ => none

/-- R162: axis ROWS 0, COLUMNS 1. -/
def axisOf : Nat → Option Axis
  | 0 => some .rows
  | 1 => some .columns
  | _ => none

/-- R162: mirror clear 0, set 1. -/
def mirrorOf : Nat → Option Bool
  | 0 => some false
  | 1 => some true
  | _ => none

/-- R162: packing PACK3 0, PACK2 1. -/
def packingOf : Nat → Option Packing
  | 0 => some .pack3
  | 1 => some .pack2
  | _ => none

/-- R162: resale flag FOR_SALE 0, NOT_FOR_RESALE 1. -/
def resaleOf : Nat → Option Resale
  | 0 => some .forSale
  | 1 => some .notForResale
  | _ => none

/-- R119, R162: the items of the fee schedule, BASE 0 to MINIMUM 5. -/
inductive ScheduleItem where
  | base
  | ageBound
  | surcharge
  | rights
  | damageDiscount
  | minimum
deriving DecidableEq, Repr

def itemOf : Nat → Option ScheduleItem
  | 0 => some .base
  | 1 => some .ageBound
  | 2 => some .surcharge
  | 3 => some .rights
  | 4 => some .damageDiscount
  | 5 => some .minimum
  | _ => none

/-- R162: field selection, bit p − 1 selects the field at place p; bits above 11 are ignored (R39). -/
def selects (w : Word) (place : Nat) : Bool := w.getLsbD (place - 1)

/-! ## Words written into a response (R163) -/

/-- A number, code, mark or count as a payload word. -/
def numberWord (n : Nat) : Word := BitVec.ofNat 32 n

/-- A mark, flag or indication alone: bit 0. -/
def flagWord (b : Bool) : Word := if b then 1 else 0

def keyWord (k : EditionKey) : Word :=
  BitVec.ofNat 32 (k.year + k.month * 2 ^ 12 + k.day * 2 ^ 16 + k.issue * 2 ^ 24)

/-- A lift in bits 7–0, two's complement. -/
def liftWord (l : Int) : Word := (BitVec.ofInt 8 l).setWidth 32

/-- R118: the value as a string of `n` digits with leading zeros. -/
def digitsWord (n v : Nat) : Word :=
  BitVec.ofNat 32 ((List.range n).foldr (fun i acc => acc + v / 10 ^ i % 10 * 16 ^ i) 0)

/-- R163: a ten-digit string in two words, the first carrying the leading digits: two of them, and the second the other eight, a split
that R163 does not state (log entry 46). -/
def tallyWords (v : Nat) : List Word := [digitsWord 2 (v / 10 ^ 8), digitsWord 8 v]

def kindWord : ObjectKind → Word
  | .page => 0
  | .photo => 1

def polarityWord : Polarity → Word
  | .print => 0
  | .negative => 1

def resaleWord : Resale → Word
  | .forSale => 0
  | .notForResale => 1

def editionStateWord : EditionState → Word
  | .opened => 0
  | .closed => 1

def lockWord : Option LockState → Word
  | none => 0
  | some .pending => 1
  | some .held => 2

def accountStateWord : AccountState → Word
  | .closed => 0
  | .opened => 1
  | .suspended => 2

def deviceWord : DeviceState → Word
  | .preparing => 0
  | .ready => 1
  | .flushing => 2
  | .halted => 3
  | .faulted => 4

/-- R163: bank states ONLINE 0, SUSPECT 1, OFFLINE 2 and NOT_CONFIGURED 3. -/
def bankCode : ReportedBank → Nat
  | .configured .online => 0
  | .configured .suspect => 1
  | .configured .offline => 2
  | .notConfigured => 3

/-- R163: banks 0 to 3 in bits 1–0, 3–2, 5–4 and 7–6. -/
def bankStatesWord (banks : List ReportedBank) : Word :=
  numberWord ((banks.zipIdx.map fun (b, i) => bankCode b * 4 ^ i).sum)

/-- R163: a tile index, 65,535 for none. -/
def tileIndexWord : Option Nat → Word
  | none => 65535
  | some t => numberWord t

/-! ## Strap word (R19, R164) -/

/-- R164: bits 1–0, codes 0 to 3 give 1 to 4 banks. -/
def bankCount (strap : BitVec 16) : Nat := strap.toNat % 4 + 1

/-- R164: bit 2, 0 RECENT and 1 A_FIRST. -/
def aFirst (strap : BitVec 16) : Bool := strap.getLsbD 2

/-- R164: bits 5–4, codes 0 to 3 give 2, 4, 8 and 16 ms; the cadence in microseconds. -/
def cadence (strap : BitVec 16) : Nat := 2000 * 2 ^ (strap.toNat / 16 % 4)

/-- R19. -/
inductive ScrubMode where
  | timed
  | fallback
  | strobeOnly
deriving DecidableEq, Repr

/-- R164: bits 9–8, 0 TIMED, 1 FALLBACK, 2 and 3 STROBE_ONLY. -/
def scrubMode (strap : BitVec 16) : ScrubMode :=
  match strap.toNat / 256 % 4 with
  | 0 => .timed
  | 1 => .fallback
  | _ => .strobeOnly

/-- R165: the strap word from the sixteen bits taken, bit 0 first. -/
def strapOf (bits : List Bool) : BitVec 16 :=
  BitVec.ofNat 16 ((bits.zipIdx.map fun (b, i) => if b then 2 ^ i else 0).sum)

end Sys2Proof.Machine
end

