-- ==== Sys2Proof/Machine/Flags.lean ====
section
/-!
DEFINITION. The records the part sends as words (R160, R163): header words, the notes word with its flags, the words of a journal
entry and of the notices.
-/

namespace Sys2Proof.Machine

open Sys2Proof

/-- R160: the status codes. -/
def statusCode : Status → Nat
  | .done => 0
  | .short => 1
  | .cancelled => 2
  | .refused => 3
  | .restarted => 4

/-- R160: the cause codes, 0 for none. -/
def causeCode : Option Cause → Nat
  | none => 0
  | some .notReady => 1
  | some .powerFail => 2
  | some .unknownCommand => 3
  | some .badField => 4
  | some .badDigit => 5
  | some .wrongPort => 6
  | some .noEdition => 7
  | some .noObject => 8
  | some .editionExists => 9
  | some .wrongState => 10
  | some .editionLocked => 11
  | some .notLocked => 12
  | some .lockConflict => 13
  | some .lockTableFull => 14
  | some .tableFull => 15
  | some .noSpace => 16
  | some .windowRange => 17
  | some .incomplete => 18
  | some .notForResale => 19
  | some .accountState => 20
  | some .journalFull => 21
  | some .catalogueOffline => 22
  | some .mediumFault => 23

/-- R163: the bit of each note in the notes word. -/
def noteBit : Note → Nat
  | .overrun => 0
  | .scaled => 1
  | .clamped => 2
  | .ignored => 3
  | .absorbed => 4
  | .empty => 5
  | .noneReady => 6

/-- R163: the notes word: one bit for each note, set when the response carries it. -/
def notesWord (notes : List Note) : Word :=
  numberWord (([.overrun, .scaled, .clamped, .ignored, .absorbed, .empty, .noneReady].map fun n =>
    if n ∈ notes then 2 ^ noteBit n else 0).sum)

/-- R160: the header word of a response: kind 5, payload length, cause in bits 15–11, status in bits 10–8, tag. -/
def responseHeader (r : Response) : Word :=
  BitVec.ofNat 32 (5 * 2 ^ 29 + (r.results.length + 1) % 512 * 2 ^ 20 + causeCode r.cause * 2 ^ 11 +
    statusCode r.status * 2 ^ 8 + r.tag.toNat)

/-- R155, R160: the code of a notice's cause. -/
def noticeCode : Notice → Nat
  | .bankState .. => 1
  | .deviceState .. => 2
  | .strayData .. => 3

/-- R155: the MERGED indication of a notice. -/
def noticeMerged : Notice → Bool
  | .bankState _ _ _ m => m
  | .deviceState _ m => m
  | .strayData _ _ m => m

/-- R163: the payload of a notice.  Notices carry no notes word. -/
def noticeWords : Notice → List Word
  | .bankState bank st banks _ => [numberWord (bank % 4 + bankCode st * 2 ^ 4), bankStatesWord banks]
  | .deviceState d _ => [deviceWord d]
  | .strayData length count _ => [numberWord (length % 512 + count * 2 ^ 16)]

/-- R160, R163: the words of an outbound record, its header word first. -/
def outWords : OutRecord → List Word
  | .response r => responseHeader r :: notesWord r.notes :: r.results
  | .data ws => BitVec.ofNat 32 (6 * 2 ^ 29 + ws.length % 512 * 2 ^ 20) :: ws
  | .notice n =>
    BitVec.ofNat 32 (7 * 2 ^ 29 + (noticeWords n).length * 2 ^ 20 + (if noticeMerged n then 2 ^ 4 else 0) + noticeCode n) ::
      noticeWords n

/-- R163: word 2 of a journal entry. -/
def entryFlagsWord (e : JournalEntry) : Word :=
  numberWord (e.account % 64 +
    (match e.state with | .provisional => 0 | .final => 2 ^ 8 | .void => 2 * 2 ^ 8) +
    (if e.grade = some .reduced then 2 ^ 12 else 0) + (if e.saturated then 2 ^ 16 else 0) +
    (if e.discountClamped then 2 ^ 17 else 0) + (if e.minApplied then 2 ^ 18 else 0))

/-- R163: a journal entry as TAKE_CHARGE returns it, 13 words. -/
def entryWords (e : JournalEntry) : List Word :=
  [e.sequence, entryFlagsWord e, numberWord e.object, keyWord e.key, numberWord e.revision,
    numberWord (e.sizeClass + e.rightsClass * 2 ^ 4 + e.band * 2 ^ 8), numberWord e.quantity,
    digitsWord 8 e.unit2, digitsWord 8 e.gross, digitsWord 8 e.net,
    digitsWord 3 e.damageDiscount, digitsWord 6 e.minimum, digitsWord 3 e.discount]

/-- R142, R163: words 1, 2 and 10 of an entry, which the response of its order carries. -/
def entryOrderWords (e : JournalEntry) : List Word := [e.sequence, entryFlagsWord e, digitsWord 8 e.net]

end Sys2Proof.Machine
end

