-- ==== Sys2Proof/Machine/Ops.lean ====
section
/-!
DEFINITION. The shared operations over the state: ports and notices, banks, the slot table and the free pool, dirty marks,
the catalogue tables, damage, and the reading and writing of slots of the medium.
-/

namespace Sys2Proof.Machine

open Sys2Proof

/-! ## Ports, records and notices -/

/-- The port engine of a port. -/
def State.port (s : State) : Port → PortEngine
  | .a => s.portA
  | .b => s.portB

def State.setPort (s : State) (p : Port) (e : PortEngine) : State :=
  match p with
  | .a => { s with portA := e }
  | .b => { s with portB := e }

def State.modPort (s : State) (p : Port) (f : PortEngine → PortEngine) : State := s.setPort p (f (s.port p))

def State.setOp (s : State) (p : Port) (o : Op) : State := s.modPort p fun e => { e with op := o }

/-- R154: the response queue holds up to 16 records; it has a free place below that. -/
def PortEngine.hasPlace (e : PortEngine) : Bool := e.outq.length < 16

/-- R155: no notice waits in a pending mark. -/
def PortEngine.noMarks (e : PortEngine) : Bool := e.bankMark.isNone && !e.deviceMark && e.strayMark.isNone

/-- R154: place a record at the tail of a port's response queue. -/
def pushOut (p : Port) (r : OutRecord) (s : State) : State := s.modPort p fun e => { e with outq := e.outq ++ [r] }

/-- R41: the states of banks 0 to 3 as they are reported. -/
def reportedBank (s : State) (b : Nat) : ReportedBank :=
  if b < bankCount s.strap then .configured (s.banks.getD b .online) else .notConfigured

def reportedBanks (s : State) : List ReportedBank := (List.range 4).map (reportedBank s)

/-- R155: a BANK_STATE notice as the banks now stand. -/
def bankNotice (s : State) (bank : Nat) (merged : Bool) : Notice :=
  .bankState bank (reportedBank s bank) (reportedBanks s) merged

/-- R155: raise a BANK_STATE notice on a port: placed at once, or merged into the port's mark. -/
def raiseBank (bank : Nat) (p : Port) (s : State) : State :=
  if (s.port p).hasPlace && (s.port p).bankMark.isNone then pushOut p (.notice (bankNotice s bank false)) s
  else s.modPort p fun e => { e with bankMark := some bank }

/-- R155: raise a DEVICE_STATE notice on a port. -/
def raiseDevice (p : Port) (s : State) : State :=
  if (s.port p).hasPlace && !(s.port p).deviceMark then pushOut p (.notice (.deviceState s.device false)) s
  else s.modPort p fun e => { e with deviceMark := true }

/-- R155: the STRAY_DATA mark counts the records discarded since it was set, held at 255. -/
def mergeStray (length : Nat) : Option StrayMark → StrayMark
  | none => ⟨length, 1⟩
  | some m => ⟨length, min 255 (m.count + 1)⟩

/-- R155: raise a STRAY_DATA notice on a port for a record of the given payload length. -/
def raiseStray (length : Nat) (p : Port) (s : State) : State :=
  if (s.port p).hasPlace && (s.port p).strayMark.isNone then pushOut p (.notice (.strayData length 1 false)) s
  else s.modPort p fun e => { e with strayMark := some (mergeStray length e.strayMark) }

/-- R156: the records of an input queue after the data records at its head have been discarded. -/
def discardData (q : List InRecord) : List InRecord := q.dropWhile fun r => headerIsData r.header

/-! ## Banks and slots -/

/-- R1: the bank a slot lies in. -/
def bankOf (slot : Nat) : Nat := slot / 16384

/-- R1: the configured slots. -/
def configuredSlots (s : State) : Nat := bankCount s.strap * 16384

def bankOffline (s : State) (b : Nat) : Bool := s.banks.getD b .online == .offline

def slotOffline (s : State) (slot : Nat) : Bool := bankOffline s (bankOf slot)

/-- R8: the entry of a slot that nothing has changed: a catalogue region slot is ASSIGNED to its group, a tile slot FREE. -/
def slotDefault (n : Nat) : SlotEntry :=
  if n < 512 then ⟨.assigned, .group n, false, false, 0, 0, false⟩ else ⟨.free, .none, false, false, 0, 0, false⟩

/-- R8: the slot table entry of a slot. -/
def State.slot (s : State) (n : Nat) : SlotEntry := Assoc.get slotDefault s.slots n

def State.setSlot (s : State) (n : Nat) (e : SlotEntry) : State := { s with slots := Assoc.put slotDefault s.slots n e }

/-- R13: the slot mark group that holds a slot's durable marks. -/
def markGroup (slot : Nat) : Nat := 267 + slot / 4096

/-- R13: the group of an edition position. -/
def editionGroup (position : Nat) : Nat := 3 + position / 256

/-- R13: the group of an object number. -/
def objectGroup (number : Nat) : Nat := 11 + number / 32

/-- R13: the last slot of the catalogue region that holds a group, with this many banks configured. -/
def lastGroup (s : State) : Nat := 266 + bankCount s.strap * 4

/-- R14: set the dirty mark of a group. -/
def markDirty (g : Nat) (s : State) : State := { s with dirty := Assoc.addNat g s.dirty }

/-- R11: the number of pool entries in banks that are not OFFLINE. -/
def usableFree (s : State) : Nat := s.pool.countP fun n => !slotOffline s n

/-- R12, R41: the number of RETIRED tile slots. -/
def retiredCount (s : State) : Nat := s.slots.countP fun (n, e) => 512 ≤ n && e.state == .retired

/-- R10: the first pool entry in a bank that is not OFFLINE, and the pool without it. -/
def takeUsable (s : State) : List Nat → Option (Nat × List Nat)
  | [] => none
  | n :: rest =>
    if slotOffline s n then
      match takeUsable s rest with
      | none => none
      | some (m, rest') => some (m, n :: rest')
    else some (n, rest)

/-- R10: the slots of an object, taken one after another from the pool; none if the pool cannot give them all. -/
def takeMany (s : State) : Nat → List Nat → Option (List Nat × List Nat)
  | 0, pool => some ([], pool)
  | k + 1, pool =>
    match takeUsable s pool with
    | none => none
    | some (n, pool') =>
      match takeMany s k pool' with
      | none => none
      | some (ns, pool'') => some (n :: ns, pool'')

/-- R12: retire a slot: RETIRED, owner none, damage mark and correction count kept, out of the pool, its mark group dirty. -/
def retireSlot (n : Nat) (s : State) : State :=
  let e := s.slot n
  markDirty (markGroup n)
    { s.setSlot n { e with state := .retired, owner := .none, relocationPending := false } with
      pool := s.pool.filter (· != n) }

/-- R93: take a slot off the relocation list; its relocation-pending mark clears. -/
def leaveRelocations (n : Nat) (s : State) : State :=
  if n ∈ s.relocations then
    { s.setSlot n { s.slot n with relocationPending := false } with relocations := s.relocations.filter (· != n) }
  else s

/-- R89, R91, R93: a slot with correction count 3 that is ASSIGNED, not listed and in a bank that is not OFFLINE joins the
relocation list, if the list has room. -/
def joinRelocations (n : Nat) (s : State) : State :=
  let e := s.slot n
  if e.count = 3 ∧ e.state = .assigned ∧ 512 ≤ n ∧ n ∉ s.relocations ∧ slotOffline s n = false ∧ s.relocations.length < 16 then
    { s.setSlot n { e with relocationPending := true } with relocations := s.relocations ++ [n] }
  else s

/-- R10: a relocation target goes back: FREE, owner none, written mark clear, at the tail of the pool. -/
def returnTarget (n : Nat) (s : State) : State :=
  { s.setSlot n { s.slot n with state := .free, owner := .none, written := false } with pool := s.pool ++ [n] }

/-- R91, R95: drop the copy in the upkeep tile buffer; a relocation's target goes back to the pool. -/
def dropCopy (s : State) : State :=
  match s.upkeep.buffer with
  | none => s
  | some c =>
    let s := { s with upkeep := { s.upkeep with buffer := none } }
    match c.purpose with
    | .writeback _ => s
    | .relocation target => returnTarget target s

/-- What every write burst does to its slot when it starts (R8, R9): the write generation advances, the correction count becomes 0
and the relocation-pending mark clears, with which the slot leaves the relocation list (R93; log entry 21). -/
def startWrite (n : Nat) (s : State) : State :=
  let e := s.slot n
  let s := { s.setSlot n { e with generation := e.generation + 1, count := 0, relocationPending := false } with
    relocations := s.relocations.filter (· != n) }
  if e.count = 0 then s else markDirty (markGroup n) s

/-! ## Catalogue tables -/

/-- R27: the edition record of a key. -/
def State.findEdition (s : State) (k : EditionKey) : Option EditionRec := s.editions.find? fun e => e.key == k

def State.modEdition (s : State) (k : EditionKey) (f : EditionRec → EditionRec) : State :=
  { s with editions := s.editions.map fun e => if e.key = k then f e else e }

/-- R28: the object record of a number. -/
def State.findObject (s : State) (n : Nat) : Option ObjectRec := s.objects.find? fun o => o.number == n

def State.modObject (s : State) (n : Nat) (f : ObjectRec → ObjectRec) : State :=
  { s with objects := s.objects.map fun o => if o.number = n then f o else o }

/-- R26: the order of an object list: pages before photos, and by sequence. -/
def refRank (r : ObjectRef) : Nat := (match r.kind with | .page => 0 | .photo => 128) + r.sequence

/-- R27: the lowest free position of the edition table. -/
def freePosition (s : State) : Option Nat := (List.range 2048).find? fun p => s.editions.all fun e => e.position != p

/-- R33: the lowest free object number. -/
def freeObjectNumber (s : State) : Option Nat := (List.range 8192).find? fun n => s.objects.all fun o => o.number != n

/-- R72: the lock condition of an edition. -/
def lockOf (s : State) (k : EditionKey) : Option LockState :=
  (s.locks.findSome? fun l => match l with
    | some e => if e.key = k then some e.state else none
    | none => none)

/-- R30: Port A holds a HELD lock on the edition. -/
def heldLock (s : State) (k : EditionKey) : Bool := lockOf s k == some .held

/-- R32, R35, R36, R45: an edition may be changed when it is OPEN, or CLOSED with Port A holding a HELD lock on it. -/
def mayChange (s : State) (e : EditionRec) : Bool := e.state == .opened || heldLock s e.key

/-- R72: take the entry of an edition out of the lock table. -/
def removeLock (k : EditionKey) (s : State) : State :=
  { s with locks := s.locks.map fun l => match l with
      | some e => if e.key = k then none else some e
      | none => none }

/-! ## Impaired tiles and the damage list -/

/-- R29: a tile position counts as impaired when its slot carries the damage mark or lies in an OFFLINE bank. -/
def slotImpaired (s : State) (n : Nat) : Bool := (s.slot n).damage || slotOffline s n

/-- R29. -/
def impairedTiles (s : State) (o : ObjectRec) : Nat := o.tileMap.countP fun m => slotImpaired s m.slot

/-- R97: the lowest tile index of an object whose slot carries the damage mark. -/
def firstDamaged (s : State) (o : ObjectRec) : Option Nat := o.tileMap.findIdx? fun m => (s.slot m.slot).damage

/-- R29, R97: recompute the impaired tile count of the objects chosen, and the counts of those that are listed. -/
def recountWhere (choose : ObjectRec → Bool) (s : State) : State :=
  { s with
    objects := s.objects.map fun o => if choose o then { o with impairedCount := impairedTiles s o } else o
    damage := s.damage.map fun d =>
      match s.findObject d.object with
      | some o => if choose o then { d with impaired := impairedTiles s o } else d
      | none => d }

/-- R29: recompute one object. -/
def recountObject (n : Nat) (s : State) : State := recountWhere (fun o => o.number == n) s

/-- R97: the damage list entry of an object. -/
def damageEntry (s : State) (o : ObjectRec) : DamageEntry := ⟨o.number, o.key, o.kind, o.impairedCount, firstDamaged s o⟩

/-- R97: raise a damage notice for an object. -/
def raiseDamage (n : Nat) (s : State) : State :=
  match s.findObject n with
  | none => s
  | some o =>
    if s.damage.any (fun d => d.object == n) then
      { s with damage := s.damage.map fun d => if d.object = n then { d with impaired := o.impairedCount } else d }
    else if o.withheld then s
    else if s.damage.length < 128 then { s with damage := s.damage ++ [damageEntry s o] }
    else { s.modObject n (fun o => { o with withheld := true }) with overflow := true }

/-- R96: record the damage of an ASSIGNED tile slot whose damage mark is clear. -/
def recordDamage (n : Nat) (s : State) : State :=
  let e := s.slot n
  match e.state, e.owner, e.damage with
  | .assigned, .tile object _, false =>
    raiseDamage object (recountObject object (markDirty (markGroup n) (s.setSlot n { e with damage := true })))
  | _, _, _ => s

/-- R98: fill the free places of the damage list from the objects that carry withheld marks, lowest object number first; the
list is that of the objects, in ascending number. -/
def refillFrom : List ObjectRec → State → State
  | [], s => s
  | o :: rest, s =>
    if o.withheld && decide (s.damage.length < 128) then
      refillFrom rest { s.modObject o.number (fun o => { o with withheld := false }) with
        damage := s.damage ++ [damageEntry s o] }
    else refillFrom rest s

/-- R98: refill, and clear the overflow marker when no withheld mark remains. -/
def refillDamage (s : State) : State :=
  let s := refillFrom s.objects s
  if s.objects.any (·.withheld) then s else { s with overflow := false }

/-- R91, R95: the slot that the copy in the upkeep tile buffer is to be written to. -/
def copyTarget (c : Copy) : Nat :=
  match c.purpose with
  | .writeback _ => c.slot
  | .relocation t => t

/-- R91, R95: drop an upkeep copy that can no longer be written, its slot lying in an OFFLINE bank. -/
def dropIfOffline (s : State) : State :=
  match s.upkeep.buffer with
  | none => s
  | some c => if slotOffline s (copyTarget c) then dropCopy s else s

/-- R29, R91, R95: a bank has gone into or out of OFFLINE: the impaired counts of the objects with a tile in it are recomputed, and
an upkeep copy that can no longer be written is dropped. -/
def bankCrossed (b : Nat) (s : State) : State :=
  dropIfOffline (recountWhere (fun o => o.tileMap.any fun m => bankOf m.slot == b) s)

/-- R5: change the state of a bank.  A change is reported to both ports. -/
def setBank (b : Nat) (st : BankState) (s : State) : State :=
  let was := s.banks.getD b .online
  if was = st then s
  else
    let s := raiseBank b .b (raiseBank b .a { s with banks := s.banks.set b st })
    if (was == .offline) != (st == .offline) then bankCrossed b s else s

/-! ## The medium -/

/-- R2: a slot that has never been written reads as words of all zero. -/
def mediumDefault (_ : Nat) : SlotContent := .words []

/-- What a slot of the medium holds. -/
def mediumRead (m : List (Nat × SlotContent)) (n : Nat) : SlotContent := Assoc.get mediumDefault m n

/-- Give a slot of the medium its content. -/
def mediumWrite (m : List (Nat × SlotContent)) (n : Nat) (c : SlotContent) : List (Nat × SlotContent) :=
  Assoc.put mediumDefault m n c

/-- The canonical form of the medium. -/
def mediumWf (m : List (Nat × SlotContent)) : Bool := Assoc.wf mediumDefault m

/-- R2: the medium word of a data word: 64 data bits and 8 check bits.  The all-zero word has all-zero check bits. -/
def mediumWordOf (d : WordData) : MediumWord := (if d = 0 then 0 else Config.checkBits d) ++ d

def zeroWord (_ : Nat) : WordData := 0

def zeroSample (_ : Nat) : Sample := 0

def zeroRow (_ : Nat) : TileRow := []

/-- R2: sample `i` of a tile, numbered in row order from its top-left sample. -/
def tileGet (t : Tile) (i : Nat) : Sample := Assoc.get zeroSample (Assoc.get zeroRow t (i / 128)) (i % 128)

/-- Give sample `i` of a tile its value. -/
def tilePut (t : Tile) (i : Nat) (v : Sample) : Tile :=
  Assoc.put zeroRow t (i / 128) (Assoc.put zeroSample (Assoc.get zeroRow t (i / 128)) (i % 128) v)

/-- The canonical form of a tile: rows and columns 0 to 127, rising, no row without a sample that is not 0. -/
def tileWf (t : Tile) : Bool :=
  Assoc.wf zeroRow t && t.all fun (row, r) => decide (row < 128) && Assoc.wf zeroSample r && r.all fun (c, _) => decide (c < 128)

/-- R2: a data word of four samples, each in the low 10 bits of a 16-bit container, the first in the lowest. -/
def packSamples (a b c d : Sample) : WordData :=
  a.setWidth 64 ||| b.setWidth 64 <<< 16 ||| c.setWidth 64 <<< 32 ||| d.setWidth 64 <<< 48

/-- R2: the data words of one row of a tile, 32 words from word 32 times the row number. -/
def packRow (row : Nat) (r : TileRow) : List (Nat × WordData) :=
  (List.range 32).filterMap fun w =>
    let at' (i : Nat) : Sample := Assoc.get zeroSample r (4 * w + i)
    let d := packSamples (at' 0) (at' 1) (at' 2) (at' 3)
    if d = 0 then none else some (32 * row + w, d)

/-- R2: the data words of a tile. -/
def packTile (t : Tile) : List (Nat × WordData) := t.flatMap fun (row, r) => packRow row r

/-- R3: the samples of one data word: each is the low 10 bits of its container. -/
def unpackData (w : Nat) (d : WordData) : TileRow :=
  (List.range 4).filterMap fun i =>
    let v := d.extractLsb' (16 * i) 10
    if v = 0 then none else some (4 * (w % 32) + i, v)

/-- R3: the samples of data words. -/
def unpackWords (ws : List (Nat × WordData)) : Tile :=
  (List.range 128).filterMap fun row =>
    let r := (ws.filter fun (w, _) => w / 32 == row).flatMap fun (w, d) => unpackData w d
    if r = [] then none else some (row, r)

/-- The data words of a slot's content.  An image has no words of its own: no requester uses the words of a group's slot
beyond the result of the read (R90). -/
def wordsOf : SlotContent → List (Nat × WordData)
  | .words ws => ws
  | .image _ => []
  | .unknown n => (List.range 4096).filterMap fun w =>
      if Config.unknownWord n w = 0 then none else some (w, Config.unknownWord n w)

/-- R3: the class of a medium word. -/
inductive WordClass where
  | clean
  | corrected
  | double
deriving DecidableEq, Repr

/-- The number of wrong bits of a word. -/
def wrongBits (m : MediumWord) : Nat := (List.range 72).countP fun i => m.getLsbD i

/-- R3: one wrong bit is corrected, two are detected; three or more may fall into any class, so their class is free. -/
def wordClass (nonce : Nat) (e : WordError) : WordClass :=
  match wrongBits e.mask with
  | 0 => .clean
  | 1 => .corrected
  | 2 => .double
  | _ => match Config.heavyClass nonce e.word with
    | 0 => .clean
    | 1 => .corrected
    | _ => .double

/-- R3: the data delivered for a word: corrected, or as read. -/
def deliverWord (nonce : Nat) (ws : List (Nat × WordData)) (e : WordError) : List (Nat × WordData) :=
  let stored := Assoc.get zeroWord ws e.word
  match wordClass nonce e with
  | .corrected => if wrongBits e.mask = 1 then ws else Assoc.put zeroWord ws e.word (Config.miscorrected nonce e.word)
  | .clean | .double => Assoc.put zeroWord ws e.word (stored ^^^ e.mask.setWidth 64)

/-- R3, R6: the result of a read. -/
inductive ReadResult where
  | clean
  | corrected (n : Nat)
  | uncorrectable (n : Nat)
  | bankOffline
  | mediumFault
deriving DecidableEq, Repr

/-- R3: the result the read as a whole reports. -/
def readResult (nonce : Nat) (errors : List WordError) : ReadResult :=
  let n := errors.countP fun e => wordClass nonce e == .corrected
  if errors.any fun e => wordClass nonce e == .double then .uncorrectable n
  else if n = 0 then .clean
  else .corrected n

/-- A read that met a word with three or more wrong bits has used a free value. -/
def heavyErrors (errors : List WordError) : Bool := errors.any fun e => decide (3 ≤ wrongBits e.mask)

/-- What a requester receives from its read: the result and the samples (R3); none on a fault (R4), zeros where the bank is
OFFLINE (R6). -/
structure Delivery where
  result : ReadResult
  samples : Tile

/-- R3, R4: what the read burst of a slot delivers. -/
def deliver (s : State) (n : Nat) : ReadEnd → Delivery
  | .mediumFault => ⟨.mediumFault, []⟩
  | .delivered errors =>
    ⟨readResult s.freeCount errors,
      unpackWords (errors.foldl (deliverWord s.freeCount) (wordsOf (mediumRead s.medium n)))⟩

/-- R6: a read of a slot in an OFFLINE bank. -/
def offlineDelivery : Delivery := ⟨.bankOffline, []⟩

/-- The free values a read used are not used again. -/
def spendRead (r : ReadEnd) (s : State) : State :=
  match r with
  | .delivered errors => if heavyErrors errors then { s with freeCount := s.freeCount + 1 } else s
  | .mediumFault => s

/-! ## Catalogue images -/

/-- R13: the durable marks of the tile slots of a slot mark group. -/
def marksImage (s : State) (g : Nat) : List SlotMarks :=
  s.slots.filterMap fun (n, e) =>
    if 512 ≤ n ∧ markGroup n = g ∧ (e.state = .retired ∨ e.damage ∨ e.count ≠ 0) then
      some ⟨n, e.state == .retired, e.damage, e.count⟩
    else none

/-- R13: the billing area. -/
def billingImage (s : State) : BillingImage := ⟨s.accounts, s.journal, s.sequence, s.billingYear⟩

/-- R13, R15: what a catalogue group holds, taken from the on-chip copy. -/
def groupImage (s : State) (g : Nat) : SlotContent :=
  if g = 0 then .image (.marker .current)
  else if g = 1 then .image (.billing (billingImage s))
  else if g = 2 then .image (.settings ⟨s.curves, s.schedule, s.year⟩)
  else if g ≤ 10 then
    .image (.editions ((s.editions.filter fun e => editionGroup e.position = g).map (·.toEditionImage)))
  else if g ≤ 266 then
    .image (.objects ((s.objects.filter fun o => objectGroup o.number = g).map (·.toObjectImage)))
  else .image (.marks (marksImage s g))

/-! ## Billing -/

/-- R17: a change to the billing area makes a billing flush pending. -/
def State.billed (s : State) : State := { s with billingPending := true }

def State.account (s : State) (n : Nat) : Account := s.accounts.getD n Account.blank

def State.setAccount (s : State) (n : Nat) (a : Account) : State := { s with accounts := s.accounts.set n a }

/-- R143: void an entry: VOID, net 0, no grade and no flags; its quote is kept. -/
def voidEntry (e : JournalEntry) : JournalEntry :=
  { e with state := .void, grade := none, net := 0, discountClamped := false, minApplied := false }

/-- R23, R147: void every PROVISIONAL entry; if there was one, a billing flush is pending. -/
def voidAll (s : State) : State :=
  if s.journal.any fun e => e.state == .provisional then
    { s with journal := s.journal.map fun e => if e.state = .provisional then voidEntry e else e, billingPending := true }
  else s

/-- R143, R144: void one order's entry, if it is still PROVISIONAL. -/
def voidOrder (n : BitVec 32) (s : State) : State :=
  if s.journal.any fun e => e.sequence == n && e.state == .provisional then
    { s with
      journal := s.journal.map fun e => if e.sequence = n ∧ e.state = .provisional then voidEntry e else e
      billingPending := true }
  else s

/-- The journal entry of a sequence number. -/
def State.findEntry (s : State) (n : BitVec 32) : Option JournalEntry := s.journal.find? fun e => e.sequence == n

end Sys2Proof.Machine
end

