-- ==== Sys2Proof/Machine/Fees.lean ====
section
/-!
DEFINITION. The fee arithmetic of chapter 8: the clamping of schedule values, the age band, the quote, and the completion amount.
-/

namespace Sys2Proof.Machine

open Sys2Proof

/-- R120: the range of an item: least and greatest value. -/
def itemRange : ScheduleItem → Nat × Nat
  | .base => (0, 999999)
  | .minimum => (0, 999999)
  | .ageBound => (0, 400)
  | .surcharge => (0, 300)
  | .rights => (25, 400)
  | .damageDiscount => (0, 90)

/-- R118: how many digits an item's value has. -/
def itemDigits : ScheduleItem → Nat
  | .base => 6
  | .minimum => 6
  | .ageBound => 3
  | .surcharge => 3
  | .rights => 3
  | .damageDiscount => 3

/-- R119: how many entries an item has. -/
def itemEntries : ScheduleItem → Nat
  | .base => 8
  | .ageBound => 8
  | .surcharge => 8
  | .rights => 4
  | .damageDiscount => 1
  | .minimum => 1

/-- R120: the value brought into the item's range. -/
def clampItem (i : ScheduleItem) (v : Nat) : Nat := max (itemRange i).1 (min (itemRange i).2 v)

/-- R119: replace one entry of the schedule. -/
def setItem (sch : Schedule) (i : ScheduleItem) (index v : Nat) : Schedule :=
  match i with
  | .base => { sch with base := sch.base.set index v }
  | .ageBound => { sch with bound := sch.bound.set index v }
  | .surcharge => { sch with surcharge := sch.surcharge.set index v }
  | .rights => { sch with rights := sch.rights.set index v }
  | .damageDiscount => { sch with damageDiscount := v }
  | .minimum => { sch with minimum := v }

/-- R123: the age of an order; 0 for an edition dated after the current year. -/
def orderAge (currentYear editionYear : Nat) : Nat := currentYear - editionYear

/-- R124: the first band whose bound is at least the age, and 7 if there is none. -/
def ageBand (bounds : List Nat) (age : Nat) : Nat := (bounds.findIdx? fun u => age ≤ u).getD 7

/-- R125: the greatest gross. -/
def grossLimit : Nat := 99999999

/-- R125: what the quote of an order is. -/
structure Quote where
  band : Nat
  unit2 : Nat
  gross : Nat
  saturated : Bool
deriving DecidableEq, Repr

/-- R125 step 1: the unit price with age, rounded to the nearest cent. -/
def unitWithAge (base surcharge : Nat) : Nat := (base * (100 + surcharge) + 50) / 100

/-- R125 step 2: the unit price with rights, rounded to the nearest cent. -/
def unitWithRights (unit multiplier : Nat) : Nat := (unit * multiplier + 50) / 100

/-- R125: the quote of an order from the schedule, the year, the edition's year, the size and rights class and the quantity. -/
def quote (sch : Schedule) (currentYear editionYear sizeClass rightsClass quantity : Nat) : Quote :=
  let band := ageBand sch.bound (orderAge currentYear editionYear)
  let unit := unitWithAge (sch.base.getD sizeClass 0) (sch.surcharge.getD band 0)
  let unit2 := unitWithRights unit (sch.rights.getD rightsClass 100)
  let product := unit2 * quantity
  { band := band, unit2 := unit2, gross := min grossLimit product, saturated := decide (grossLimit < product) }

/-- R127, R128: what a completion is: the net and its two flags. -/
structure Charge where
  net : Nat
  discountClamped : Bool
  minApplied : Bool
deriving DecidableEq, Repr

/-- R127: the sum of the discounts before it is held at 90. -/
def discountSum (e : JournalEntry) : Grade → Nat
  | .full => e.discount
  | .reduced => e.discount + e.damageDiscount

/-- R127, R128: the completion amount of an entry, from its snapshots and its grade. -/
def charge (e : JournalEntry) (g : Grade) : Charge :=
  let sum := discountSum e g
  let net1 := e.gross - e.gross * min 90 sum / 100
  { net := max e.minimum net1, discountClamped := decide (90 < sum), minApplied := decide (net1 < e.minimum) }

/-- R132: the greatest tally. -/
def tallyLimit : Nat := 9999999999

/-- R132, R142: an account after a charge of the given net. -/
def chargeAccount (a : Account) (net : Nat) : Account :=
  { a with
    tally := min tallyLimit (a.tally + net)
    saturated := a.saturated || decide (tallyLimit < a.tally + net)
    orders := min 65535 (a.orders + 1) }

end Sys2Proof.Machine
end

