-- ==== Sys2Proof/Machine/Renders.lean ====
section
/-!
DEFINITION. The render's geometry, its sample arithmetic and its output packing (chapter 7).
-/

namespace Sys2Proof.Machine

open Sys2Proof

/-! ## Sample arithmetic -/

/-- R106 step 2: the curve value of an input 0 to 1023: the knot below it and the rounded share of the segment, rounded toward
minus infinity after adding 64. -/
def curveValue (knots : List Nat) (v : Nat) : Int :=
  let k := v / 128
  let lo : Int := knots.getD k 0
  let hi : Int := knots.getD (k + 1) 0
  lo + ((hi - lo) * (v % 128 : Nat) + 64) / 128

/-- R107 step 3: the lift is added and the result clamped to 0 to 255. -/
def addLift (c lift : Int) : Nat := (max 0 (min 255 (c + lift))).toNat

/-- R106, R107: the restoration of one stored sample under a snapshot. -/
def restoreSample (set : CurveSet) (polarity : Polarity) (v : Sample) : Nat :=
  match polarity with
  | .print => addLift (curveValue set.print.knots v.toNat) set.print.lift
  | .negative => addLift (curveValue set.negative.knots (1023 - v.toNat)) set.negative.lift

/-! ## Geometry -/

/-- R103: output width or height. -/
def outputSpan (lo hi scale : Nat) : Nat := (hi - lo) / scale + 1

/-- R104: the index just after the last output sample at or above the end of a tile-row. -/
def RenderCtx.bandEnd (c : RenderCtx) (band : Nat) : Nat :=
  if band * 128 + 127 < c.y0 then 0 else min c.height ((band * 128 + 127 - c.y0) / c.scale + 1) * c.width

/-- R104: the first tile-row from `band` on that holds output rows after index `done`; a row without output rows is passed
over.  The fuel is more than the tile-rows an object can have. -/
def RenderCtx.nextBand (c : RenderCtx) (done : Nat) : Nat → Nat → Nat
  | 0, band => band
  | fuel + 1, band => if done < c.bandEnd band then band else c.nextBand done fuel (band + 1)

/-- R104: a tile-column holds at least one output position. -/
def RenderCtx.columnTaken (c : RenderCtx) (col : Nat) : Bool :=
  (List.range c.width).any fun i => (c.x0 + i * c.scale) / 128 == col

/-- R104: the tile-columns taken in every band, left to right. -/
def RenderCtx.columns (c : RenderCtx) : List Nat :=
  (List.range' (c.x0 / 128) (c.x1 / 128 + 1 - c.x0 / 128)).filter c.columnTaken

/-- R105: the tile whose turn comes next in the band, by its tile index. -/
def RenderCtx.nextTile (c : RenderCtx) (o : ObjectRec) : Option Nat :=
  (c.columns[c.classes.length]?).map fun col => c.band * o.width + col

/-! ## Taking tiles -/

/-- R105: a tile's turn ends with its class; it is counted at most once under each heading. -/
def RenderCtx.takeTile (c : RenderCtx) (tile : Nat) (cls : TileClass) (impaired unwritten : Bool) (corrected : Nat) :
    RenderCtx :=
  { c with
    classes := c.classes ++ [(tile, cls)]
    asked := false
    impairedMet := c.impairedMet + (if impaired then 1 else 0)
    unwrittenMet := c.unwrittenMet + (if unwritten then 1 else 0)
    correctedWords := c.correctedWords + corrected }

/-- R105: the class of a read tile from the read's result; `damaged` tells whether the slot carries the damage mark when the
read ends. -/
def RenderCtx.takeRead (c : RenderCtx) (tile : Nat) (d : Delivery) (damaged : Bool) : RenderCtx :=
  match d.result with
  | .clean => c.takeTile tile (if damaged then .fill else .computed d.samples) damaged false 0
  | .corrected n => c.takeTile tile (if damaged then .fill else .computed d.samples) damaged false n
  | .uncorrectable n => c.takeTile tile .fill true false n
  | .bankOffline => c.takeTile tile .fill true false 0
  | .mediumFault => c.takeTile tile .fill true false 0

/-! ## Output -/

/-- R103, R106, R107: the output sample of an index: restored where its tile is computed, the fill level where it is fill. -/
def RenderCtx.outputSample (c : RenderCtx) (o : ObjectRec) (set : CurveSet) (index : Nat) : Nat :=
  let x := c.x0 + index % c.width * c.scale
  let y := c.y0 + index / c.width * c.scale
  let tile := y / 128 * o.width + x / 128
  match (c.classes.find? fun t => t.1 == tile) with
  | some (_, .computed samples) => restoreSample set c.polarity (tileGet samples (y % 128 * 128 + x % 128))
  | _ => set.fill

/-- R108: pack one output sample into the word being built; a full word joins the record being built. -/
def RenderCtx.packSample (c : RenderCtx) (v : Nat) : RenderCtx :=
  let word := c.building ||| (BitVec.ofNat 32 (v % 256) <<< (8 * c.packPhase))
  if c.packPhase = 3 then
    { c with cursor := c.cursor + 1, packPhase := 0, building := 0, record := c.record ++ [word] }
  else { c with cursor := c.cursor + 1, packPhase := c.packPhase + 1, building := word }

/-- R108: the word that holds the last output sample is completed with zero bytes. -/
def RenderCtx.closeWord (c : RenderCtx) : RenderCtx :=
  if c.packPhase = 0 then c else { c with packPhase := 0, building := 0, record := c.record ++ [c.building] }

/-- R108: restore and pack `n` output samples. -/
def RenderCtx.packMany (o : ObjectRec) (set : CurveSet) : Nat → RenderCtx → RenderCtx
  | 0, c => c
  | n + 1, c => RenderCtx.packMany o set n (c.packSample (c.outputSample o set c.cursor))

/-- R108: pack until the record being built holds 256 words, or the band's output samples are packed.  The word that holds the
render's last output sample is completed. -/
def RenderCtx.emit (c : RenderCtx) (o : ObjectRec) (set : CurveSet) : RenderCtx :=
  let room := (256 - c.record.length) * 4 - c.packPhase
  let c' := RenderCtx.packMany o set (min room (c.bandEnd c.band - c.cursor)) c
  if c'.cursor = c'.count then c'.closeWord else c'

/-- R108: the record being built is complete: it holds 256 words, or the word that carries the last output sample. -/
def RenderCtx.recordComplete (c : RenderCtx) : Bool :=
  c.record.length == 256 || (c.cursor == c.count && c.packPhase == 0 && !c.record.isEmpty)

/-- R111: the count of samples carried by the records placed. -/
def RenderCtx.samplesPlaced (c : RenderCtx) : Nat := min (4 * c.wordsPlaced) c.count

/-- R110, R111: the response of a render. -/
def RenderCtx.response (c : RenderCtx) (st : Status) (samples set : Nat) : Response :=
  { tag := c.tag, status := st, cause := none, notes := c.notes,
    results := [numberWord samples, numberWord c.width, numberWord c.height, numberWord c.impairedMet,
      numberWord c.unwrittenMet, numberWord c.correctedWords, numberWord set] }

/-- R101: the context of a render as it starts. -/
def renderStart (tag : Tag) (o : ObjectRec) (x0 x1 y0 y1 scale : Nat) (notes : List Note) : RenderCtx :=
  let c : RenderCtx :=
    { tag := tag, key := o.key, object := o.number, x0 := x0, x1 := x1, y0 := y0, y1 := y1, scale := scale,
      polarity := o.polarity, width := outputSpan x0 x1 scale, height := outputSpan y0 y1 scale,
      count := outputSpan x0 x1 scale * outputSpan y0 y1 scale, band := y0 / 128, bandPhase := .read, classes := [],
      asked := false, cursor := 0, packPhase := 0, building := 0, record := [], wordsPlaced := 0, impairedMet := 0,
      unwrittenMet := 0, correctedWords := 0, notes := notes, cancelled := false }
  { c with band := c.nextBand 0 32 c.band }

end Sys2Proof.Machine
end

