-- ==== Sys2Proof/Machine/Stores.lean ====
section
/-!
DEFINITION. The store's context and band buffer (chapter 3): stream order and packing, bands and their coverage, taking
samples from a data record, and the store's response.
-/

namespace Sys2Proof.Machine

open Sys2Proof

/-- R48: sample positions in one word. -/
def perWord : Packing → Nat
  | .pack3 => 3
  | .pack2 => 2

/-- R48: the samples of one word, first position first. -/
def unpackWord (pk : Packing) (w : Word) : List Sample :=
  match pk with
  | .pack3 => [w.extractLsb' 0 10, w.extractLsb' 10 10, w.extractLsb' 20 10]
  | .pack2 => [w.extractLsb' 0 10, w.extractLsb' 16 10]

/-- R47: the length of a line of the stream. -/
def StoreCtx.lineLength (c : StoreCtx) : Nat :=
  match c.axis with
  | .rows => c.x1 - c.x0 + 1
  | .columns => c.y1 - c.y0 + 1

/-- R47: the coordinates of the sample at an index of the stream. -/
def StoreCtx.position (c : StoreCtx) (i : Nat) : Nat × Nat :=
  let line := i / c.lineLength
  let k := i % c.lineLength
  match c.axis with
  | .rows => (if c.mirror then c.x1 - k else c.x0 + k, c.y0 + line)
  | .columns => (c.x0 + line, if c.mirror then c.y1 - k else c.y0 + k)

/-- R50: the first band of a store. -/
def StoreCtx.firstBand (c : StoreCtx) : Nat :=
  match c.axis with
  | .rows => c.y0 / 128
  | .columns => c.x0 / 128

/-- R50: the index in the stream just after the last sample of a band. -/
def StoreCtx.bandEnd (c : StoreCtx) (band : Nat) : Nat :=
  match c.axis with
  | .rows => (min c.y1 (128 * band + 127) - c.y0 + 1) * c.lineLength
  | .columns => (min c.x1 (128 * band + 127) - c.x0 + 1) * c.lineLength

/-- The numbers from `lo` to `hi`. -/
def span (lo hi : Nat) : List Nat := List.range' lo (hi + 1 - lo)

/-- R50: the tiles of a band, as (tile-column, tile-row), in band order. -/
def StoreCtx.bandTiles (c : StoreCtx) (band : Nat) : List (Nat × Nat) :=
  match c.axis with
  | .rows => (span (c.x0 / 128) (c.x1 / 128)).map fun col => (col, band)
  | .columns => (span (c.y0 / 128) (c.y1 / 128)).map fun row => (band, row)

/-- R50: the window contains all the samples of the tile at this tile-column and tile-row. -/
def StoreCtx.covers (c : StoreCtx) (t : Nat × Nat) : Bool :=
  c.x0 ≤ t.1 * 128 && t.1 * 128 + 127 ≤ c.x1 && c.y0 ≤ t.2 * 128 && t.2 * 128 + 127 ≤ c.y1

/-- R52: a tile as it starts in the band buffer: a partly covered, written tile is to be read, every other starts as zeros. -/
def StoreCtx.bufferTile (c : StoreCtx) (o : ObjectRec) (t : Nat × Nat) : BandTile :=
  let index := t.2 * o.width + t.1
  let written := (o.tileMap.getD index ⟨0, false⟩).written
  { index := index, full := c.covers t, needsRead := !c.covers t && written, read := false, taken := 0,
    writeDone := false, samples := [] }

/-- R51, R52: enter a band in BAND_READ. -/
def StoreCtx.enterBand (c : StoreCtx) (o : ObjectRec) (band : Nat) : StoreCtx :=
  { c with band := band, bandPhase := .read, tiles := (c.bandTiles band).map (c.bufferTile o) }

/-- R52: the tile whose read-merge comes next. -/
def StoreCtx.nextRead (c : StoreCtx) : Option BandTile := c.tiles.find? fun t => t.needsRead && !t.read

/-- R55, R60: the tile whose write comes next: the first that has taken a sample and is not written. -/
def StoreCtx.nextWrite (c : StoreCtx) : Option BandTile := c.tiles.find? fun t => decide (0 < t.taken) && !t.writeDone

/-- Change one tile of the band buffer. -/
def StoreCtx.modTile (c : StoreCtx) (index : Nat) (f : BandTile → BandTile) : StoreCtx :=
  { c with tiles := c.tiles.map fun t => if t.index = index then f t else t }

/-- R54: place the next sample of the stream at its position in its tile. -/
def StoreCtx.placeSample (width : Nat) (c : StoreCtx) (v : Sample) : StoreCtx :=
  let (x, y) := c.position c.cursor
  let c' := c.modTile (y / 128 * width + x / 128) fun t =>
    { t with samples := tilePut t.samples (y % 128 * 128 + x % 128) v, taken := t.taken + 1 }
  { c' with cursor := c.cursor + 1 }

/-- R54: take samples from the data record at the head of the input queue until the band's samples are complete or the record
is used up.  Answers the context, and whether the record is to be removed from the queue: a word counts as taken when its last
position has been used, so a record whose last word carries into the next band keeps its place (log entry 40). -/
def StoreCtx.takeRecord (width : Nat) (c : StoreCtx) (words : List Word) : StoreCtx × Bool :=
  let per := perWord c.packing
  let start := c.wordsTaken * per + c.packPhase
  let ready := (words.flatMap (unpackWord c.packing)).drop start
  let wanted := c.bandEnd c.band - c.cursor
  let c' := (ready.take wanted).foldl (StoreCtx.placeSample width) c
  let used := start + min wanted ready.length
  let c' := { c' with
    wordsTaken := used / per
    packPhase := used % per
    bandPhase := if wanted ≤ ready.length then .write else .fill }
  if c'.cursor = c.count then
    -- the words after the one that carries the last needed sample are excess (R59)
    ({ c' with overrun := decide ((used + per - 1) / per < words.length), wordsTaken := 0, packPhase := 0 }, true)
  else if words.length ≤ used / per then ({ c' with wordsTaken := 0, packPhase := 0 }, true)
  else (c', false)

/-- R59 to R61: the response of a store, with its committed count. -/
def StoreCtx.response (c : StoreCtx) (st : Status) (cause : Option Cause) : Response :=
  { tag := c.tag, status := st, cause := cause, notes := if st = .done ∧ c.overrun then [.overrun] else [],
    results := [numberWord c.committed] }

/-- The status with which a store ends that a medium fault or its ending writes end (R57, R60, R61). -/
def StoreCtx.endStatus (c : StoreCtx) : Status :=
  match c.ending with
  | some .cancelled => .cancelled
  | some .short => .short
  | none => .short

/-- R61: a store that is told to end: in BAND_FILL its partial band is written, in BAND_READ nothing, in BAND_WRITE the rest of
the band. -/
def StoreCtx.endNow (c : StoreCtx) (e : StoreEnding) : StoreCtx :=
  { c with ending := some e, bandPhase := if c.bandPhase = .fill then .write else c.bandPhase,
           wordsTaken := 0, packPhase := 0 }

end Sys2Proof.Machine
end

