-- ==== Sys2Proof/Machine/Control.lean ====
section
/-!
DEFINITION. How a command is admitted and answered, how an operation ends on its port, what a CANCEL, a power warning and a
RESTART do to the operation in flight, and the entry into a device state.
-/

namespace Sys2Proof.Machine

open Sys2Proof

/-! ## Answering -/

/-- A response with status DONE. -/
def doneResponse (tag : Tag) (notes : List Note) (results : List Word) : Response := ⟨tag, .done, none, notes, results⟩

/-- R153: answer a command at once; the response is placed when the queue has a free place, and the command is in flight until
then. -/
def answer (p : Port) (r : Response) (s : State) : State :=
  if (s.port p).hasPlace then pushOut p (.response r) s else s.setOp p (.respond r none false)

/-- R153: a refusal carries the tag, status REFUSED, its cause and no notes; `extra` is the word R163 allows. -/
def refuseWith (p : Port) (tag : Tag) (cause : Cause) (extra : List Word) (s : State) : State :=
  answer p ⟨tag, .refused, some cause, [], extra⟩ s

def refuse (p : Port) (tag : Tag) (cause : Cause) (s : State) : State := refuseWith p tag cause [] s

/-- Answer DONE at once. -/
def answerDone (p : Port) (tag : Tag) (results : List Word) (s : State) : State := answer p (doneResponse tag [] results) s

/-- R17: answer only after a billing flush that starts after now has completed. -/
def awaitFlush (p : Port) (r : Response) (s : State) : State := s.setOp p (.flushWait r .waiting)

/-- R151 check 3: the cause with which a device state refuses a command. -/
def deviceRefusal : DeviceState → Option Cause
  | .preparing => some .notReady
  | .ready => none
  | .flushing => some .powerFail
  | .halted => some .powerFail
  | .faulted => some .mediumFault

/-- R152: the ports a command is open to. -/
inductive OpenTo where
  | onlyA
  | onlyB
  | both
deriving DecidableEq, Repr

def OpenTo.admits : OpenTo → Port → Bool
  | .onlyA, .a => true
  | .onlyB, .b => true
  | .both, _ => true
  | .onlyA, .b => false
  | .onlyB, .a => false

/-- R151 checks 3 and 4: the device state, then the port; the command goes on with `run` when both pass. -/
def whenAdmitted (o : OpenTo) (p : Port) (tag : Tag) (s : State) (run : State) : State :=
  match deviceRefusal s.device with
  | some cause => refuse p tag cause s
  | none => if o.admits p then run else refuse p tag .wrongPort s

/-! ## Locks meeting Port B's operations -/

/-- R74: the edition a port's operation in flight is on. -/
def Op.edition : Op → Option EditionKey
  | .render c => some c.key
  | .order o => some o.render.key
  | .respond _ k _ => k
  | .idle => none
  | .store _ => none
  | .lock _ _ => none
  | .probe _ _ _ => none
  | .flushWait _ _ => none

/-- R163: an edition's revision as a result. -/
def revisionWord (s : State) (k : EditionKey) : Word :=
  numberWord (match s.findEdition k with | some e => e.revision | none => 0)

/-- R75: the lock entry of an edition becomes HELD. -/
def holdLock (k : EditionKey) (s : State) : State :=
  { s with locks := s.locks.map fun (l : Option LockEntry) => match l with
      | some e => if e.key = k then some { e with state := .held } else some e
      | none => none }

/-- R75: the Port B operation on an edition has ended: a PENDING entry becomes HELD, and the LOCK_EDITION answers DONE. -/
def lockBecomesHeld (k : EditionKey) (s : State) : State :=
  if lockOf s k = some .pending then
    let s := holdLock k s
    match s.portA.op with
    | .lock tag key => if key = k then s.setOp .a (.respond (doneResponse tag [] [revisionWord s k]) none false) else s
    | _ => s
  else s

/-- The operation of a port has ended: the port is free, its snapshot is discarded (R102), and a Port B operation leaves its
edition (R75). -/
def endOp (p : Port) (s : State) : State :=
  let edition := (s.port p).op.edition
  let s := s.modPort p fun e => { e with op := .idle, snapshot := none }
  match p, edition with
  | .b, some k => lockBecomesHeld k s
  | _, _ => s

/-- R75, R79: release a HELD lock of an edition: a set written-under-lock mark clears and raises the revision, held at
65,535, and the edition group is dirtied. -/
def releaseHeld (k : EditionKey) (s : State) : State :=
  match s.findEdition k with
  | none => removeLock k s
  | some e =>
    if e.writtenUnderLock then
      markDirty (editionGroup e.position)
        ((removeLock k s).modEdition k fun e => { e with writtenUnderLock := false, revision := min 65535 (e.revision + 1) })
    else removeLock k s

/-- R80: a RESTART on Port A releases every entry; HELD ones as UNLOCK_EDITION does, a PENDING one with no change of revision. -/
def releaseAll (s : State) : State :=
  let keys := s.locks.filterMap fun (l : Option LockEntry) => match l with
    | some e => some (e.key, e.state)
    | none => none
  keys.foldl (fun s (k, st) => match st with | .held => releaseHeld k s | .pending => removeLock k s) s

/-! ## Ending operations -/

/-- A burst of this port is in flight (R64). -/
def Burst.requester (b : Burst) : Option Requester :=
  match b.work with
  | .storeRead _ => some (.port .a)
  | .storeWrite _ => some (.port .a)
  | .renderRead p => some (.port p)
  | .probe => some (.port .a)
  | .scrub _ _ => some .upkeep
  | .writeback _ _ => some .upkeep
  | .relocationRead _ _ _ _ => some .upkeep
  | .relocationWrite _ _ => some .upkeep
  | .catalogueFlush => some .upkeep
  | .billingFlush => some .upkeep
  | .prepProbe => none
  | .prepMarker => none
  | .prepFormat => none
  | .prepLoad => none
  | .carried _ => none

def portInBurst (p : Port) (s : State) : Bool :=
  match s.burst with
  | some b => b.requester == some (.port p)
  | none => false

/-- R142, R143: the response of an order; a CANCELLED one carries the count of samples placed besides. -/
def orderResponse (s : State) (o : OrderCtx) (st : Status) : Response :=
  let words := match s.findEntry o.sequence with
    | some e => entryOrderWords e
    | none => [o.sequence]
  { tag := o.render.tag, status := st, cause := none, notes := [],
    results := words ++ (if st = .cancelled then [numberWord o.render.samplesPlaced] else []) }

/-- The response of a port's operation is made (R153). -/
def respond (p : Port) (r : Response) (edition : Option EditionKey) (store : Bool) (s : State) : State :=
  s.setOp p (.respond r edition store)

/-- The set number of a port's snapshot (R110). -/
def snapshotSet (s : State) (p : Port) : Nat :=
  match (s.port p).snapshot with
  | some t => t.set
  | none => 0

/-- R102: a port's render has ended: its snapshot is discarded, although its response may still wait for a place. -/
def dropSnapshot (p : Port) (s : State) : State := s.modPort p fun e => { e with snapshot := none }

/-- R111: a render ends CANCELLED. -/
def renderCancelled (p : Port) (c : RenderCtx) (s : State) : State :=
  dropSnapshot p (respond p (c.response .cancelled c.samplesPlaced (snapshotSet s p)) (some c.key) false s)

/-- R143: an order whose entry is void ends CANCELLED. -/
def orderCancelled (p : Port) (o : OrderCtx) (s : State) : State :=
  dropSnapshot p (respond p (orderResponse s o .cancelled) (some o.render.key) false s)

/-- R57: a burst of the store ended MEDIUM_FAULT: the store ends with that cause, and the data records behind it are
discarded. -/
def storeFaulted (c : StoreCtx) (s : State) : State :=
  respond .a (c.response c.endStatus (some .mediumFault)) none true
    (s.modPort .a fun e => { e with inq := discardData e.inq })

/-- R18, R24, R145: an operation waiting for a billing flush ends CANCELLED with its change standing. -/
def endWait (p : Port) (s : State) : State :=
  match (s.port p).op with
  | .flushWait r _ => respond p { r with status := .cancelled } none false s
  | .order o =>
    match o.stage with
    | .finalFlush _ => orderCancelled p o s
    | .entryFlush _ => s
    | .rendering => s
  | .idle => s
  | .store _ => s
  | .render _ => s
  | .lock _ _ => s
  | .probe _ _ _ => s
  | .respond _ _ _ => s

/-- R111, R143: a render told to end: at once, or when its read in flight has completed. -/
def RenderCtx.told (c : RenderCtx) : RenderCtx := { c with cancelled := true }

/-- The end that CANCEL and a power warning have in common (R23, R156): a store writes its partial band, a render stops, a
PROVISIONAL order is voided and stops, a PENDING lock is removed, a probe not yet granted is withdrawn; the data records at the
head of the input queue are discarded.  Operations that are already ending, complete or only waiting for a billing flush are
left as they are.  All of it, the discarding too, happens at the CANCEL or at the assertion of POWER_WARN; that a power warning
discards then, and not at the burst boundary where the operation ends, is log entry 45. -/
def cancelOp (p : Port) (s : State) : State :=
  let discard (s : State) := s.modPort p fun e => { e with inq := discardData e.inq }
  match (s.port p).op with
  | .store c => if c.ending.isNone then discard (s.setOp p (.store (c.endNow .cancelled))) else s
  | .render c =>
    if c.cancelled then s
    else if portInBurst p s then discard (s.setOp p (.render c.told))
    else discard (renderCancelled p c s)
  | .order o =>
    match o.stage with
    | .entryFlush _ => discard (orderCancelled p o (voidOrder o.sequence s))
    | .rendering =>
      if o.render.cancelled then s
      else if portInBurst p s then
        discard ((voidOrder o.sequence s).setOp p (.order { o with render := o.render.told }))
      else discard (orderCancelled p o (voidOrder o.sequence s))
    | .finalFlush _ => s
  | .lock tag key => discard (respond p ⟨tag, .cancelled, none, [], []⟩ none false (removeLock key s))
  | .probe tag _ false => discard (respond p ⟨tag, .cancelled, none, [], []⟩ none false s)
  | .probe _ _ true => s
  | .flushWait _ _ => s
  | .respond _ _ _ => s
  | .idle => s

/-- R156: a CANCEL.  An operation waiting for a billing flush is ended only while bank 0 is OFFLINE (R18). -/
def takeCancel (p : Port) (s : State) : State :=
  if (s.port p).restart ≠ .none then s
  else match (s.port p).op with
    | .flushWait _ _ => if bankOffline s 0 then (endWait p s).modPort p fun e => { e with inq := discardData e.inq } else s
    | .order o =>
      match o.stage with
      | .finalFlush _ =>
        if bankOffline s 0 then (endWait p s).modPort p fun e => { e with inq := discardData e.inq } else s
      | .entryFlush _ => cancelOp p s
      | .rendering => cancelOp p s
    | .idle => s
    | .store _ => cancelOp p s
    | .render _ => cancelOp p s
    | .lock _ _ => cancelOp p s
    | .probe _ _ _ => cancelOp p s
    | .respond _ _ _ => s

/-- R157 steps 1 and 2 as a RESTART is taken: the queues are emptied, but for a record that has begun to leave; the pending
marks are cleared; and the operation in flight is to end without a response. -/
def takeRestart (p : Port) (s : State) : State :=
  s.modPort p fun e =>
    if e.restart = .none then
      { e with
        inq := []
        outq := if e.sent = 0 then [] else e.outq.take 1
        bankMark := none
        deviceMark := false
        strayMark := none
        restart := .ending }
    else { e with inq := [] }

/-- R157 steps 2 to 4, once no burst of the operation is in flight: the operation is discarded, a PROVISIONAL order voided
(R144), and on Port A every lock released (R80). -/
def restartEnds (p : Port) (s : State) : State :=
  let s := match (s.port p).op with
    | .order o => voidOrder o.sequence s
    | _ => s
  let s := endOp p s
  let s := match p with
    | .a => releaseAll s
    | .b => s
  s.modPort p fun e => { e with restart := .answering }

/-- R157 step 6: the RESTARTED response. -/
def restartedResponse : Response := ⟨0, .restarted, none, [], []⟩

/-! ## Device states -/

/-- R20, R84: enter READY, FLUSHING, HALTED or FAULTED: a DEVICE_STATE notice to both ports; the interval timer starts from
zero in READY in the modes that use it, and is stopped otherwise. -/
def enterState (d : DeviceState) (s : State) : State :=
  let runs := d == .ready && scrubMode s.strap != .strobeOnly
  let s := { s with device := d, upkeep := { s.upkeep with timerRunning := runs, timer := 0 } }
  raiseDevice .b (raiseDevice .a s)

/-- R23, R84: the upkeep engine drops its copy, unless the copy's own write is in flight; a read of its own in flight runs to its
end and places no copy, whatever the device state is by then. -/
def stopUpkeep (s : State) : State :=
  match s.burst with
  | none => dropCopy s
  | some b =>
    match b.work with
    | .writeback _ _ => s
    | .relocationWrite _ _ => s
    | .scrub g _ => dropCopy { s with burst := some { b with work := .scrub g true } }
    | .relocationRead t g d _ => dropCopy { s with burst := some { b with work := .relocationRead t g d true } }
    | _ => dropCopy s

/-- A power warning ends the operation of a port as a CANCEL does (R23; log entries 28 and 45); one waiting only for a billing flush
is not ended. -/
def powerEnds (p : Port) (s : State) : State := if (s.port p).restart ≠ .none then s else cancelOp p s

/-- R23: POWER_WARN asserted in READY. -/
def enterFlushing (s : State) : State :=
  stopUpkeep (voidAll (powerEnds .b (powerEnds .a (enterState .flushing s))))

end Sys2Proof.Machine
end

