-- ==== Sys2Proof/Machine/Catalogue.lean ====
section
/-!
DEFINITION. The catalogue commands (chapter 2): OPEN_EDITION to WITHDRAW_EDITION, and the queries.  Each takes the port the command
arrived on, its tag and its payload words, after checks 1 and 2 of R151.
-/

namespace Sys2Proof.Machine

open Sys2Proof

/-! ## OPEN_EDITION -/

/-- R31: the new record. -/
def newEdition (position : Nat) (key : EditionKey) (era : Nat) (resale : Resale) : EditionRec :=
  { position := position, key := key, state := .opened, era := era, resale := resale, revision := 0,
    objects := [], writtenUnderLock := false }

/-- R31: put a new record into the edition table, at its position. -/
def addEdition (e : EditionRec) (s : State) : State :=
  markDirty (editionGroup e.position) { s with editions := Assoc.insertBy (·.position) e s.editions }

/-- R31. -/
def openEditionRun (p : Port) (tag : Tag) (key era resale : Word) (s : State) : State :=
  whenAdmitted .onlyA p tag s <|
    match resaleOf (numberOf resale) with
    | none => refuse p tag .badField s
    | some r =>
      if ¬ keyInRange (keyOf key) ∨ 7 < numberOf era then refuse p tag .badField s
      else if (s.findEdition (keyOf key)).isSome then refuse p tag .editionExists s
      else match freePosition s with
        | none => refuse p tag .tableFull s
        | some pos => answerDone p tag [] (addEdition (newEdition pos (keyOf key) (numberOf era) r) s)

/-! ## DEFINE_OBJECT -/

/-- R10: make the slots of a new object ASSIGNED to its tiles, in row-major order. -/
def assignSlots (object : Nat) (ns : List Nat) (s : State) : State :=
  ns.zipIdx.foldl (fun s (n, i) =>
    s.setSlot n { s.slot n with state := .assigned, owner := .tile object i, written := false }) s

/-- R33: the new record. -/
def newObject (number : Nat) (kind : ObjectKind) (key : EditionKey) (sequence width height : Nat) (polarity : Polarity)
    (ns : List Nat) : ObjectRec :=
  { number := number, kind := kind, key := key, sequence := sequence, width := width, height := height,
    polarity := (match kind with | .page => .print | .photo => polarity)
    tileMap := ns.map fun n => ⟨n, false⟩, writtenCount := 0, impairedCount := 0, withheld := false }

/-- R33: the changes of DEFINE_OBJECT, as one step. -/
def addObject (o : ObjectRec) (ns pool : List Nat) (s : State) : State :=
  let s := assignSlots o.number ns { s with pool := pool }
  let s := { s with objects := Assoc.insertBy (·.number) { o with impairedCount := impairedTiles s o } s.objects }
  let s := s.modEdition o.key fun e =>
    { e with objects := Assoc.insertBy refRank ⟨o.number, o.kind, o.sequence⟩ e.objects
             writtenUnderLock := e.writtenUnderLock || e.state == .closed }
  markDirty (objectGroup o.number) s

/-- R32, R33. -/
def defineObjectRun (p : Port) (tag : Tag) (key kind sequence width height polarity : Word) (s : State) : State :=
  whenAdmitted .onlyA p tag s <|
    match kindOf (numberOf kind), polarityOf (numberOf polarity) with
    | some k, some pol =>
      let seq := numberOf sequence
      let w := numberOf width
      let h := numberOf height
      if ¬ keyInRange (keyOf key) ∨ ¬ (1 ≤ seq ∧ seq ≤ 127) ∨ ¬ (1 ≤ w ∧ w ≤ 16) ∨ ¬ (1 ≤ h ∧ h ≤ 24) then
        refuse p tag .badField s
      else match s.findEdition (keyOf key) with
        | none => refuse p tag .noEdition s
        | some e =>
          if ¬ mayChange s e then refuse p tag .notLocked s
          else match e.objects.find? fun r => r.kind == k && r.sequence == seq with
            | some r => refuseWith p tag .badField [numberWord (r.number % 2 ^ 13)] s
            | none =>
              if 128 ≤ e.objects.length then refuse p tag .tableFull s
              else match freeObjectNumber s with
                | none => refuse p tag .tableFull s
                | some number =>
                  if usableFree s < w * h + 16 then refuse p tag .noSpace s
                  else match takeMany s (w * h) s.pool with
                    | none => refuse p tag .noSpace s
                    | some (ns, pool) =>
                      answer p (doneResponse tag (if k = .page ∧ pol = .negative then [.ignored] else [])
                          [numberWord number, numberWord (ns.headD 0)])
                        (addObject (newObject number k (keyOf key) seq w h pol ns) ns pool s)
    | _, _ => refuse p tag .badField s

/-! ## CLOSE_EDITION and AMEND_EDITION -/

/-- R34: the first object of the list that has an unwritten tile, and its lowest unwritten tile. -/
def firstIncomplete (s : State) (refs : List ObjectRef) : Option (Nat × Nat) :=
  refs.findSome? fun r =>
    match s.findObject r.number with
    | none => none
    | some o => (o.tileMap.findIdx? fun m => !m.written).map fun t => (o.number, t)

/-- R163: the word of an INCOMPLETE refusal that names an object and a tile of it. -/
def incompleteWord (object tile : Nat) : Word := numberWord (object % 2 ^ 13 + tile * 2 ^ 16)

/-- R34, R163: an INCOMPLETE refusal that names no object holds 511 for the tile index; what its object number field then holds is
not stated, and is a free value (log entry 43). -/
def refuseEmpty (p : Port) (tag : Tag) (s : State) : State :=
  refuseWith p tag .incomplete [incompleteWord (Config.unnamedObject s.freeCount).toNat 511] { s with freeCount := s.freeCount + 1 }

/-- R34. -/
def closeEditionRun (p : Port) (tag : Tag) (key : Word) (s : State) : State :=
  whenAdmitted .onlyA p tag s <|
    if ¬ keyInRange (keyOf key) then refuse p tag .badField s
    else match s.findEdition (keyOf key) with
      | none => refuse p tag .noEdition s
      | some e =>
        if e.state = .closed then refuse p tag .wrongState s
        else if e.objects = [] then refuseEmpty p tag s
        else match firstIncomplete s e.objects with
          | some (object, tile) => refuseWith p tag .incomplete [incompleteWord object tile] s
          | none =>
            answerDone p tag []
              (markDirty (editionGroup e.position) (s.modEdition (keyOf key) fun e => { e with state := .closed }))

/-- R35. -/
def amendEditionRun (p : Port) (tag : Tag) (key era resale : Word) (s : State) : State :=
  whenAdmitted .onlyA p tag s <|
    match resaleOf (numberOf resale) with
    | none => refuse p tag .badField s
    | some r =>
      if ¬ keyInRange (keyOf key) ∨ 7 < numberOf era then refuse p tag .badField s
      else match s.findEdition (keyOf key) with
        | none => refuse p tag .noEdition s
        | some e =>
          if ¬ mayChange s e then refuse p tag .notLocked s
          else answerDone p tag []
            (markDirty (editionGroup e.position)
              (s.modEdition (keyOf key) fun e => { e with era := numberOf era, resale := r }))

/-! ## WITHDRAW_EDITION -/

/-- R10, R12, R36: release one slot: a damaged slot is retired, any other becomes FREE at the tail of the pool. -/
def releaseSlot (n : Nat) (s : State) : State :=
  let s := leaveRelocations n s
  let e := s.slot n
  if e.damage then retireSlot n s
  else
    let s := { s.setSlot n { e with state := .free, owner := .none, written := false, count := 0, relocationPending := false }
      with pool := s.pool ++ [n] }
    if e.count = 0 then s else markDirty (markGroup n) s

/-- R37: what the upkeep engine holds of the released slots: a copy not yet being written is dropped, and a burst in flight runs
to its end with no outcome. -/
def dropReleased (released : List Nat) (s : State) : State :=
  let inFlight := match s.burst with
    | some b => match b.work with
      | .writeback _ _ => true
      | .relocationWrite _ _ => true
      | _ => false
    | none => false
  let s := match s.upkeep.buffer with
    | some c => if c.slot ∈ released ∧ inFlight = false then dropCopy s else s
    | none => s
  match s.burst with
  | none => s
  | some b =>
    match b.work with
    | .writeback kept dropped => { s with burst := some { b with work := .writeback kept (dropped || b.slot ∈ released) } }
    | .relocationRead t g dropped noCopy =>
      { s with burst := some { b with work := .relocationRead t g (dropped || b.slot ∈ released) noCopy } }
    | .relocationWrite old dropped =>
      { s with burst := some { b with work := .relocationWrite old (dropped || old ∈ released) } }
    | _ => s

/-- R36: the slots of an edition in the order a withdrawal takes them. -/
def editionSlots (s : State) (refs : List ObjectRef) : List Nat :=
  refs.flatMap fun r =>
    match s.findObject r.number with
    | some o => o.tileMap.map (·.slot)
    | none => []

/-- R36, R37: remove an edition, its objects and every trace of them.  The target of a dropped relocation copy joins the tail of the
pool after the released slots; the rules give the two no order (log entry 38). -/
def withdrawEdition (e : EditionRec) (s : State) : State :=
  let released := editionSlots s e.objects
  let numbers := e.objects.map (·.number)
  let s := released.foldl (fun s n => releaseSlot n s) s
  let s := dropReleased released s
  let s := { s with objects := s.objects.filter fun o => !numbers.contains o.number }
  let s := numbers.foldl (fun s n => markDirty (objectGroup n) s) s
  let s := markDirty (editionGroup e.position) { s with editions := s.editions.filter fun r => r.key != e.key }
  let s := removeLock e.key s
  refillDamage { s with damage := s.damage.filter fun d => !numbers.contains d.object }

/-- R36: how many of the slots a withdrawal retires. -/
def retiredOf (s : State) (ns : List Nat) : Nat := ns.countP fun n => (s.slot n).damage

/-- R36. -/
def withdrawEditionRun (p : Port) (tag : Tag) (key : Word) (s : State) : State :=
  whenAdmitted .onlyA p tag s <|
    if ¬ keyInRange (keyOf key) then refuse p tag .badField s
    else match s.findEdition (keyOf key) with
      | none => refuse p tag .noEdition s
      | some e =>
        if ¬ mayChange s e then refuse p tag .notLocked s
        else
          let ns := editionSlots s e.objects
          answerDone p tag [numberWord (ns.length - retiredOf s ns), numberWord (retiredOf s ns)] (withdrawEdition e s)

/-! ## Queries -/

/-- R38: one entry of an object list: number in bits 12–0, kind in bit 16, sequence in bits 30–24. -/
def refWord (r : ObjectRef) : Word :=
  numberWord (r.number % 2 ^ 13 + (match r.kind with | .page => 0 | .photo => 2 ^ 16) + r.sequence % 2 ^ 7 * 2 ^ 24)

/-- R163: a list of varying length is preceded by a word giving its entry count. -/
def listWords (ws : List Word) : List Word := numberWord ws.length :: ws

/-- R38: Port B may not read a record of an edition that has a lock entry. -/
def hiddenFrom (s : State) (p : Port) (k : EditionKey) : Bool := p == .b && (lockOf s k).isSome

/-- R38. -/
def readEditionRun (p : Port) (tag : Tag) (key : Word) (s : State) : State :=
  whenAdmitted .both p tag s <|
    if ¬ keyInRange (keyOf key) then refuse p tag .badField s
    else match s.findEdition (keyOf key) with
      | none => refuse p tag .noEdition s
      | some e =>
        if hiddenFrom s p e.key then refuse p tag .editionLocked s
        else answerDone p tag
          ([keyWord e.key, editionStateWord e.state, numberWord e.era, resaleWord e.resale, numberWord e.revision,
            lockWord (lockOf s e.key), flagWord e.writtenUnderLock, numberWord e.objects.length] ++
            listWords (e.objects.map refWord)) s

/-- R163: a tile map entry, slot in bits 15–0 and written mark in bit 16. -/
def mapWord (m : MapEntry) : Word := numberWord (m.slot % 2 ^ 16 + (if m.written then 2 ^ 16 else 0))

/-- R39: the words of the field at a place. -/
def objectField (s : State) (o : ObjectRec) : Nat → List Word
  | 1 => [kindWord o.kind]
  | 2 => [keyWord o.key]
  | 3 => [numberWord o.sequence]
  | 4 => [numberWord o.width]
  | 5 => [numberWord o.height]
  | 6 => [polarityWord o.polarity]
  | 7 => [numberWord o.writtenCount]
  | 8 => [numberWord o.impairedCount]
  | 9 => [flagWord o.withheld]
  | 10 => listWords (o.tileMap.map mapWord)
  | 11 => [tileIndexWord (o.tileMap.findIdx? fun m => !m.written)]
  | 12 => [tileIndexWord (o.tileMap.findIdx? fun m => slotImpaired s m.slot)]
  | _ => []

/-- R39: the selected fields in place order. -/
def selectedFields (s : State) (o : ObjectRec) (selection : Word) : List Word :=
  ((List.range' 1 12).filter (selects selection)).flatMap (objectField s o)

/-- R39. -/
def readObjectRun (p : Port) (tag : Tag) (object selection : Word) (s : State) : State :=
  whenAdmitted .both p tag s <|
    if 8191 < numberOf object then refuse p tag .badField s
    else match s.findObject (numberOf object) with
      | none => refuse p tag .noObject s
      | some o =>
        if hiddenFrom s p o.key then refuse p tag .editionLocked s
        else answerDone p tag (numberWord o.number :: selectedFields s o selection) s

/-- R40: the editions with keys at or above a key, in ascending key order. -/
def editionsFrom (s : State) (k : EditionKey) : List EditionRec :=
  (Assoc.sortBy (fun e => keyRank e.key) s.editions).filter fun e => keyRank k ≤ keyRank e.key

/-- R40, R163: a key returned with its state, which stands in bit 31. -/
def listedWord (e : EditionRec) : Word := keyWord e.key ||| (editionStateWord e.state <<< 31)

/-- R40. -/
def listEditionsRun (p : Port) (tag : Tag) (start : Word) (s : State) : State :=
  whenAdmitted .both p tag s <|
    if ¬ keyInRange (keyOf start) then refuse p tag .badField s
    else
      let all := editionsFrom s (keyOf start)
      answerDone p tag (listWords ((all.take 32).map listedWord) ++ [flagWord (decide (32 < all.length))]) s

/-- R41: the catalogue-stale indication. -/
def catalogueStale (s : State) : Bool := bankOffline s 0 && (!s.dirty.isEmpty || s.billingPending)

/-- R163: a lock entry, the key with the lock condition in bits 29–28; an empty entry is a word of 0. -/
def lockEntryWord : Option LockEntry → Word
  | none => 0
  | some e => keyWord e.key ||| (lockWord (some e.state) <<< 28)

/-- R146: a journal entry is ready when it is FINAL or VOID. -/
def entryReady (e : JournalEntry) : Bool := e.state != .provisional

/-- R41, R42, R163: the items of READ_STATUS.  In PREPARING and FAULTED the counts are 0, the lock table empty and the
indications clear.  The strap word is reported whole, its bits without a field as they were latched (log entry 47). -/
def statusWords (s : State) : List Word :=
  let first := [deviceWord s.device, numberWord s.strap.toNat, bankStatesWord (reportedBanks s)]
  match s.device with
  | .preparing => first ++ List.replicate 15 0
  | .faulted => first ++ List.replicate 15 0
  | .ready | .flushing | .halted =>
    first ++ [numberWord (usableFree s), numberWord (retiredCount s), numberWord s.damage.length, flagWord s.overflow,
      numberWord s.journal.length, numberWord (s.journal.countP entryReady)] ++ s.locks.map lockEntryWord ++
      [flagWord (catalogueStale s)]

/-- R41: READ_STATUS is answered from either port in every device state. -/
def readStatusRun (p : Port) (tag : Tag) (s : State) : State := answerDone p tag (statusWords s) s

end Sys2Proof.Machine
end

