-- ==== Sys2Proof/Machine/Editorial.lean ====
section
/-!
DEFINITION. The other commands of Port A, and those of both ports beside the catalogue queries: PUT_WINDOW, SERVICE_BANK, the locks,
the scrub commands, TAKE_DAMAGE, the curve commands and RENDER.
-/

namespace Sys2Proof.Machine

open Sys2Proof

/-! ## PUT_WINDOW, RENDER and SERVICE_BANK -/

/-- R45 check 3: the window lies in the object. -/
def windowFits (o : ObjectRec) (x0 x1 y0 y1 : Nat) : Bool :=
  x0 ≤ x1 && x1 < o.width * 128 && y0 ≤ y1 && y1 < o.height * 128

/-- R46: the context of a store as it starts. -/
def storeStart (tag : Tag) (o : ObjectRec) (x0 x1 y0 y1 : Nat) (axis : Axis) (mirror : Bool) (packing : Packing) : StoreCtx :=
  let c : StoreCtx :=
    { tag := tag, object := o.number, x0 := x0, x1 := x1, y0 := y0, y1 := y1, axis := axis, mirror := mirror,
      packing := packing, count := (x1 - x0 + 1) * (y1 - y0 + 1), cursor := 0, packPhase := 0, wordsTaken := 0, band := 0,
      bandPhase := .read, tiles := [], committed := 0, overrun := false, ending := none }
  c.enterBand o c.firstBand

/-- R45, R46. -/
def putWindowRun (p : Port) (tag : Tag) (object x0 x1 y0 y1 axis mirror packing : Word) (s : State) : State :=
  whenAdmitted .onlyA p tag s <|
    match axisOf (numberOf axis), mirrorOf (numberOf mirror), packingOf (numberOf packing) with
    | some ax, some mi, some pk =>
      if 8191 < numberOf object then refuse p tag .badField s
      else match s.findObject (numberOf object) with
        | none => refuse p tag .noObject s
        | some o =>
          if ¬ windowFits o (numberOf x0) (numberOf x1) (numberOf y0) (numberOf y1) then refuse p tag .windowRange s
          else match s.findEdition o.key with
            | none => refuse p tag .notLocked s
            | some e =>
              if ¬ mayChange s e then refuse p tag .notLocked s
              else s.setOp p
                (.store (storeStart tag o (numberOf x0) (numberOf x1) (numberOf y0) (numberOf y1) ax mi pk))
    | _, _, _ => refuse p tag .badField s

/-- R101, R102: start a render: its context in flight, and its snapshot of the chosen set. -/
def startRender (p : Port) (set : Nat) (op : Op) (s : State) : State :=
  s.modPort p fun e => { e with op := op, snapshot := some ⟨set, s.curves.getD set CurveSet.blank⟩ }

/-- R101: the effective scale of a RENDER. -/
def effectiveScale (p : Port) (scale : Nat) : Nat :=
  match p with
  | .a => scale
  | .b => 4

/-- R101: the set of a RENDER: Port A's override, else the edition's era. -/
def chosenSet (p : Port) (curve era : Nat) : Nat :=
  match p with
  | .a => if curve = 8 then era else curve
  | .b => era

/-- R101: the notes of a RENDER. -/
def renderNotes (p : Port) (scale curve : Nat) : List Note :=
  match p with
  | .a => []
  | .b => (if scale = 4 then [] else [.scaled]) ++ (if curve = 8 then [] else [.ignored])

/-- R100, R101. -/
def renderRun (p : Port) (tag : Tag) (object x0 x1 y0 y1 scale curve : Word) (s : State) : State :=
  whenAdmitted .both p tag s <|
    let sc := numberOf scale
    let cv := numberOf curve
    if 8191 < numberOf object ∨ sc ∉ [1, 2, 4] ∨ (p = .a ∧ 8 < cv) then refuse p tag .badField s
    else match s.findObject (numberOf object) with
      | none => refuse p tag .noObject s
      | some o =>
        if ¬ windowFits o (numberOf x0) (numberOf x1) (numberOf y0) (numberOf y1) then refuse p tag .windowRange s
        else match s.findEdition o.key with
          | none => refuse p tag .noObject s
          | some e =>
            if p = .b ∧ e.state = .opened then refuse p tag .wrongState s
            else if hiddenFrom s p e.key then refuse p tag .editionLocked s
            else startRender p (chosenSet p cv e.era)
              (.render (renderStart tag o (numberOf x0) (numberOf x1) (numberOf y0) (numberOf y1) (effectiveScale p sc)
                (renderNotes p sc cv))) s

/-- R7. -/
def serviceBankRun (p : Port) (tag : Tag) (bank : Word) (s : State) : State :=
  whenAdmitted .onlyA p tag s <|
    if 4 ≤ numberOf bank ∨ bankCount s.strap ≤ numberOf bank then refuse p tag .badField s
    else s.setOp p (.probe tag (numberOf bank) false)

/-! ## Locks -/

/-- R72: a new entry takes the lowest-numbered empty entry. -/
def addLock (k : EditionKey) (st : LockState) : List (Option LockEntry) → List (Option LockEntry)
  | [] => []
  | none :: rest => some ⟨k, st, .a⟩ :: rest
  | some e :: rest => some e :: addLock k st rest

/-- R74: Port B has an operation in flight on the edition. -/
def onEditionB (s : State) (k : EditionKey) : Bool := s.portB.op.edition == some k

/-- R73, R74. -/
def lockEditionRun (p : Port) (tag : Tag) (key : Word) (s : State) : State :=
  whenAdmitted .onlyA p tag s <|
    let k := keyOf key
    if ¬ keyInRange k then refuse p tag .badField s
    else match s.findEdition k with
      | none => refuse p tag .noEdition s
      | some e =>
        if e.state = .opened then refuse p tag .wrongState s
        else if (lockOf s k).isSome then refuse p tag .lockConflict s
        else if s.locks.all (·.isSome) then refuse p tag .lockTableFull s
        else if onEditionB s k then { s with locks := addLock k .pending s.locks }.setOp p (.lock tag k)
        else answerDone p tag [numberWord e.revision] { s with locks := addLock k .held s.locks }

/-- R79. -/
def unlockEditionRun (p : Port) (tag : Tag) (key : Word) (s : State) : State :=
  whenAdmitted .onlyA p tag s <|
    let k := keyOf key
    if ¬ keyInRange k then refuse p tag .badField s
    else match s.findEdition k with
      | none => refuse p tag .noEdition s
      | some e =>
        if ¬ heldLock s k then refuse p tag .notLocked s
        else
          let s' := releaseHeld k s
          answerDone p tag [revisionWord s' k, flagWord (e.writtenUnderLock && decide (e.revision < 65535))] s'

/-! ## Scrub commands and TAKE_DAMAGE -/

/-- R86. -/
def scrubStrobeRun (p : Port) (tag : Tag) (s : State) : State :=
  whenAdmitted .onlyA p tag s <|
    match scrubMode s.strap with
    | .timed => answer p (doneResponse tag [.ignored] []) s
    | .fallback =>
      if s.upkeep.due then answer p (doneResponse tag [.absorbed] []) s
      else answerDone p tag [] { s with upkeep := { s.upkeep with due := true, timer := 0 } }
    | .strobeOnly =>
      if s.upkeep.due then answer p (doneResponse tag [.absorbed] []) s
      else answerDone p tag [] { s with upkeep := { s.upkeep with due := true } }

/-- R87. -/
def scrubBurstRun (p : Port) (tag : Tag) (count : Word) (s : State) : State :=
  whenAdmitted .onlyA p tag s <|
    if numberOf count < 1 ∨ 128 < numberOf count then refuse p tag .badField s
    else if 0 < s.upkeep.burstCount then refuse p tag .wrongState s
    else answerDone p tag [] { s with upkeep := { s.upkeep with burstCount := numberOf count } }

/-- R98: the five fields of a damage list entry. -/
def damageWords (d : DamageEntry) : List Word :=
  [numberWord d.object, keyWord d.key, kindWord d.kind, numberWord d.impaired, tileIndexWord d.firstDamaged]

/-- R98. -/
def takeDamageRun (p : Port) (tag : Tag) (s : State) : State :=
  whenAdmitted .onlyA p tag s <|
    match s.damage with
    | [] => answer p (doneResponse tag [.empty] []) s
    | d :: rest => answerDone p tag (damageWords d) (refillDamage { s with damage := rest })

/-! ## Curve sets -/

/-- R114: a lift brought into −32 to +31. -/
def clampLift (l : Int) : Int := max (-32) (min 31 l)

/-- R114: replace one curve of a set, leaving the other curve and the fill level. -/
def setCurve (t : CurveSet) (polarity : Polarity) (c : Curve) : CurveSet :=
  match polarity with
  | .print => { t with print := c }
  | .negative => { t with negative := c }

def modCurves (n : Nat) (f : CurveSet → CurveSet) (s : State) : State :=
  markDirty 2 { s with curves := s.curves.set n (f (s.curves.getD n CurveSet.blank)) }

/-- R114. -/
def writeCurveRun (p : Port) (tag : Tag) (set polarity : Word) (knots : List Word) (lift : Word) (s : State) : State :=
  whenAdmitted .onlyA p tag s <|
    match polarityOf (numberOf polarity) with
    | none => refuse p tag .badField s
    | some pol =>
      if 7 < numberOf set ∨ (knots.any fun k => 255 < numberOf k) then refuse p tag .badField s
      else
        let l := clampLift (liftOf lift)
        answer p (doneResponse tag (if l = liftOf lift then [] else [.clamped]) [liftWord l])
          (modCurves (numberOf set) (fun t => setCurve t pol ⟨knots.map numberOf, l⟩) s)

/-- R115. -/
def writeFillRun (p : Port) (tag : Tag) (set level : Word) (s : State) : State :=
  whenAdmitted .onlyA p tag s <|
    if 7 < numberOf set ∨ 255 < numberOf level then refuse p tag .badField s
    else answerDone p tag [] (modCurves (numberOf set) (fun t => { t with fill := numberOf level }) s)

/-- R116: one curve as results. -/
def curveWords (c : Curve) : List Word := c.knots.map numberWord ++ [liftWord c.lift]

/-- R116. -/
def readCurveRun (p : Port) (tag : Tag) (set : Word) (s : State) : State :=
  whenAdmitted .both p tag s <|
    if 7 < numberOf set then refuse p tag .badField s
    else
      let t := s.curves.getD (numberOf set) CurveSet.blank
      answerDone p tag ([numberWord (numberOf set)] ++ curveWords t.print ++ curveWords t.negative ++ [numberWord t.fill]) s

end Sys2Proof.Machine
end

