-- ==== Sys2Proof/Machine/Sales.lean ====
section
/-!
DEFINITION. The commands of Port B: ORDER_REPRINT, TAKE_CHARGE, the account commands, the fee schedule and SET_YEAR.
-/

namespace Sys2Proof.Machine

open Sys2Proof

/-! ## Fee schedule and year -/

/-- R119. -/
def writeScheduleRun (p : Port) (tag : Tag) (item index value : Word) (s : State) : State :=
  whenAdmitted .onlyB p tag s <|
    if ¬ digitsGood 6 value then refuse p tag .badDigit s
    else match itemOf (numberOf item) with
      | none => refuse p tag .badField s
      | some i =>
        if itemEntries i ≤ numberOf index then refuse p tag .badField s
        else
          let v := digitsValue (itemDigits i) value
          let stored := clampItem i v
          answer p (doneResponse tag (if stored = v then [] else [.clamped]) [digitsWord (itemDigits i) stored])
            (markDirty 2 { s with schedule := setItem s.schedule i (numberOf index) stored })

/-- R121: the whole schedule and the year, as digit strings. -/
def scheduleWords (sch : Schedule) (year : Nat) : List Word :=
  sch.base.map (digitsWord 6) ++ sch.bound.map (digitsWord 3) ++ sch.surcharge.map (digitsWord 3) ++
    sch.rights.map (digitsWord 3) ++ [digitsWord 3 sch.damageDiscount, digitsWord 6 sch.minimum, digitsWord 4 year]

/-- R121. -/
def readScheduleRun (p : Port) (tag : Tag) (s : State) : State :=
  whenAdmitted .both p tag s <| answerDone p tag (scheduleWords s.schedule s.year) s

/-- R122. -/
def setYearRun (p : Port) (tag : Tag) (year : Word) (s : State) : State :=
  whenAdmitted .onlyB p tag s <|
    if ¬ digitsGood 4 year then refuse p tag .badDigit s
    else
      let y := digitsValue 4 year
      if y < 1800 ∨ 2199 < y then refuse p tag .badField s
      else if bankOffline s 0 then refuse p tag .catalogueOffline s
      else awaitFlush p (doneResponse tag [] [digitsWord 4 y])
        (markDirty 2 { s with year := y, billingYear := y }).billed

/-! ## Accounts -/

/-- R133: the checks of an account command after its digit check, then the change, which waits for its billing flush. -/
def changeAccount (p : Port) (tag : Tag) (account : Word) (allowed : AccountState → Bool) (r : Account → Response)
    (f : Account → Account) (s : State) : State :=
  let n := numberOf account
  if 63 < n then refuse p tag .badField s
  else if ¬ allowed (s.account n).state then refuse p tag .accountState s
  else if bankOffline s 0 then refuse p tag .catalogueOffline s
  else awaitFlush p (r (s.account n)) (s.setAccount n (f (s.account n))).billed

/-- R134: OPEN_ACCOUNT starts the account afresh. -/
def openAccountRun (p : Port) (tag : Tag) (account : Word) (s : State) : State :=
  whenAdmitted .onlyB p tag s <|
    changeAccount p tag account (fun st => st == .closed) (fun _ => doneResponse tag [] [])
      (fun _ => ⟨.opened, 0, 0, false, 0⟩) s

/-- R134. -/
def suspendAccountRun (p : Port) (tag : Tag) (account : Word) (s : State) : State :=
  whenAdmitted .onlyB p tag s <|
    changeAccount p tag account (fun st => st == .opened) (fun _ => doneResponse tag [] [])
      (fun a => { a with state := .suspended }) s

/-- R134. -/
def resumeAccountRun (p : Port) (tag : Tag) (account : Word) (s : State) : State :=
  whenAdmitted .onlyB p tag s <|
    changeAccount p tag account (fun st => st == .suspended) (fun _ => doneResponse tag [] [])
      (fun a => { a with state := .opened }) s

/-- R134: CLOSE_ACCOUNT keeps the discount, the tally, the flag and the order count. -/
def closeAccountRun (p : Port) (tag : Tag) (account : Word) (s : State) : State :=
  whenAdmitted .onlyB p tag s <|
    changeAccount p tag account (fun st => st != .closed) (fun _ => doneResponse tag [] [])
      (fun a => { a with state := .closed }) s

/-- R135. -/
def setDiscountRun (p : Port) (tag : Tag) (account discount : Word) (s : State) : State :=
  whenAdmitted .onlyB p tag s <|
    if ¬ digitsGood 3 discount then refuse p tag .badDigit s
    else
      let v := digitsValue 3 discount
      changeAccount p tag account (fun st => st != .closed)
        (fun _ => doneResponse tag (if v ≤ 50 then [] else [.clamped]) [digitsWord 3 (min 50 v)])
        (fun a => { a with discount := min 50 v }) s

/-- R136: what READ_TALLY and CLEAR_TALLY return. -/
def tallyResults (a : Account) : List Word :=
  [accountStateWord a.state, digitsWord 3 a.discount] ++ tallyWords a.tally ++ [flagWord a.saturated, numberWord a.orders]

/-- R136. -/
def readTallyRun (p : Port) (tag : Tag) (account : Word) (s : State) : State :=
  whenAdmitted .onlyB p tag s <|
    if 63 < numberOf account then refuse p tag .badField s
    else answerDone p tag (tallyResults (s.account (numberOf account))) s

/-- R136: CLEAR_TALLY returns the items as they were just before the clearing. -/
def clearTallyRun (p : Port) (tag : Tag) (account : Word) (s : State) : State :=
  whenAdmitted .onlyB p tag s <|
    changeAccount p tag account (fun _ => true) (fun a => doneResponse tag [] (tallyResults a))
      (fun a => { a with tally := 0, saturated := false }) s

/-! ## Orders and charges -/

/-- R140: the PROVISIONAL entry of an order. -/
def newEntry (s : State) (o : ObjectRec) (e : EditionRec) (sizeClass rightsClass quantity account : Nat) : JournalEntry :=
  let q := quote s.schedule s.year e.key.year sizeClass rightsClass quantity
  { sequence := s.sequence, account := account, object := o.number, key := e.key, revision := e.revision,
    sizeClass := sizeClass, rightsClass := rightsClass, quantity := quantity, band := q.band, unit2 := q.unit2,
    gross := q.gross, saturated := q.saturated, damageDiscount := s.schedule.damageDiscount,
    minimum := s.schedule.minimum, discount := (s.account account).discount, state := .provisional, grade := none, net := 0,
    discountClamped := false, minApplied := false }

/-- R101, R140: the render of an order: the whole object at scale 1. -/
def orderRender (tag : Tag) (o : ObjectRec) : RenderCtx :=
  renderStart tag o 0 (o.width * 128 - 1) 0 (o.height * 128 - 1) 1 []

/-- R140: accept an order, as one step on the tables. -/
def acceptOrder (p : Port) (tag : Tag) (o : ObjectRec) (e : EditionRec) (entry : JournalEntry) (s : State) : State :=
  startRender p e.era (.order ⟨s.sequence, .entryFlush .waiting, orderRender tag o⟩)
    { s with journal := s.journal ++ [entry], sequence := s.sequence + 1, billingPending := true }

/-- R139, R140.  The port check comes before the device state. -/
def orderReprintRun (p : Port) (tag : Tag) (object sizeClass rightsClass quantity account : Word) (s : State) : State :=
  if p = .a then refuse p tag .wrongPort s
  else match deviceRefusal s.device with
    | some cause => refuse p tag cause s
    | none =>
      match s.findObject (numberOf object) with
      | none => refuse p tag .noObject s
      | some o =>
        if 8191 < numberOf object then refuse p tag .noObject s
        else if 7 < numberOf sizeClass ∨ 3 < numberOf rightsClass ∨ numberOf quantity < 1 ∨ 999 < numberOf quantity ∨
            63 < numberOf account then refuse p tag .badField s
        else match s.findEdition o.key with
          | none => refuse p tag .noObject s
          | some e =>
            if e.state = .opened then refuse p tag .wrongState s
            else if e.resale = .notForResale then refuse p tag .notForResale s
            else if (lockOf s e.key).isSome then refuse p tag .editionLocked s
            else if (s.account (numberOf account)).state ≠ .opened then refuse p tag .accountState s
            else if bankOffline s 0 then refuse p tag .catalogueOffline s
            else if 128 ≤ s.journal.length then refuse p tag .journalFull s
            else acceptOrder p tag o e
              (newEntry s o e (numberOf sizeClass) (numberOf rightsClass) (numberOf quantity) (numberOf account)) s

/-- R146. -/
def takeChargeRun (p : Port) (tag : Tag) (s : State) : State :=
  whenAdmitted .onlyB p tag s <|
    match s.journal with
    | [] => answer p (doneResponse tag [.noneReady] []) s
    | e :: rest =>
      if e.state = .provisional then answer p (doneResponse tag [.noneReady] []) s
      else if bankOffline s 0 then refuse p tag .catalogueOffline s
      else awaitFlush p (doneResponse tag [] (entryWords e)) { s with journal := rest, billingPending := true }

/-- R142: the completion step of an order, when the last record of its render has been placed. -/
def completeOrder (p : Port) (o : OrderCtx) (s : State) : State :=
  match s.findEntry o.sequence with
  | none => s.setOp p (.order { o with stage := .finalFlush .waiting })
  | some e =>
    let impaired := match s.findObject o.render.object with
      | some obj => obj.impairedCount
      | none => 0
    let g : Grade := if 0 < impaired then .reduced else .full
    let c := charge e g
    let final := { e with state := .final, grade := some g, net := c.net, discountClamped := c.discountClamped,
                          minApplied := c.minApplied }
    let s := { s with journal := s.journal.map fun (f : JournalEntry) => if f.sequence = o.sequence then final else f, billingPending := true }
    (s.setAccount e.account (chargeAccount (s.account e.account) c.net)).setOp p
      (.order { o with stage := .finalFlush .waiting })

end Sys2Proof.Machine
end

