-- ==== Sys2Proof/Machine/Upkeep.lean ====
section
/-!
DEFINITION. The upkeep engine (chapter 6): the choice of its work, the start of its bursts, and the outcomes of scrub visits,
write-backs, relocations and flushes.
-/

namespace Sys2Proof.Machine

open Sys2Proof

/-! ## Choosing work -/

/-- R88: a slot is eligible for a scrub visit. -/
def eligible (s : State) (n : Nat) : Bool :=
  let e := s.slot n
  decide (n < configuredSlots s) && e.state != .retired && !slotOffline s n &&
    (match e.owner with | .relocation _ => false | _ => true)

/-- R88: the first eligible slot counting upward from `n` and wrapping, among the next `fuel` slots. -/
def searchEligible (s : State) : Nat → Nat → Option Nat
  | 0, _ => none
  | fuel + 1, n => if eligible s n then some n else searchEligible s fuel ((n + 1) % configuredSlots s)

/-- R88: the slot a visit granted now would read. -/
def visitSlot (s : State) : Option Nat := searchEligible s (configuredSlots s) s.upkeep.cursor

/-- R88: where the cursor moves after a visit: the next other eligible slot, or it stays. -/
def cursorAfter (s : State) (n : Nat) : Nat :=
  (searchEligible s (configuredSlots s - 1) ((n + 1) % configuredSlots s)).getD n

/-- R15: the next dirty group in ascending order, starting after the group flushed last and wrapping. -/
def nextDirty (s : State) : Option Nat :=
  match s.upkeep.lastGroup with
  | none => s.dirty.head?
  | some g =>
    match s.dirty.find? fun d => decide (g < d) with
    | some d => some d
    | none => s.dirty.head?

/-- R83: a piece of upkeep work. -/
inductive UpkeepWork where
  | billing
  | copy (c : Copy)
  | relocate (old : Nat)
  | flush (group : Nat)
  | scrub (slot : Nat)
deriving DecidableEq, Repr

/-- R83 item 3: the oldest entry whose slot lies in a bank that is not OFFLINE, if a usable free slot exists. -/
def relocationWanted (s : State) : Option Nat :=
  if usableFree s = 0 then none else s.relocations.find? fun n => !slotOffline s n

/-- R83 item 4: the group a catalogue flush would write. -/
def flushWanted (s : State) : Option Nat := if bankOffline s 0 then none else nextDirty s

/-- R83 item 5: the slot a scrub visit would read. -/
def scrubWanted (s : State) : Option Nat :=
  if s.upkeep.due || decide (0 < s.upkeep.burstCount) then visitSlot s else none

/-- R83 items 3 to 5, with the buffer empty. -/
def restOfWork (s : State) : Option UpkeepWork :=
  match relocationWanted s with
  | some old => some (.relocate old)
  | none =>
    match flushWanted s, scrubWanted s with
    | some g, some n => if s.upkeep.lastBurst = some .catalogueFlush then some (.scrub n) else some (.flush g)
    | some g, none => some (.flush g)
    | none, some n => some (.scrub n)
    | none, none => none

/-- R83, R84: the work the upkeep engine would choose if it were granted now. -/
def chooseWork (s : State) : Option UpkeepWork :=
  match s.device with
  | .ready =>
    if s.billingPending && !bankOffline s 0 then some .billing
    else match s.upkeep.buffer with
      | some c => some (.copy c)
      | none => restOfWork s
  | .flushing =>
    if s.billingPending && !bankOffline s 0 then some .billing else (flushWanted s).map .flush
  | .preparing => none
  | .halted => none
  | .faulted => none

/-! ## Starting bursts -/

/-- Start a burst on the medium bus with a fresh timer (R4). -/
def startBurst (work : BurstWork) (slot : Nat) (content : Option SlotContent) (s : State) : State :=
  { s with burst := some ⟨work, slot, false, 0, content⟩ }

/-- R82: note the kind of the upkeep engine's burst. -/
def noteBurst (k : UpkeepBurst) (s : State) : State := { s with upkeep := { s.upkeep with lastBurst := some k } }

/-- R17: the operations whose change the starting billing flush carries. -/
def carryWait (p : Port) (s : State) : State :=
  match (s.port p).op with
  | .flushWait r _ => s.setOp p (.flushWait r .inBurst)
  | .order o =>
    match o.stage with
    | .entryFlush _ => s.setOp p (.order { o with stage := .entryFlush .inBurst })
    | .finalFlush _ => s.setOp p (.order { o with stage := .finalFlush .inBurst })
    | .rendering => s
  | .idle => s
  | .store _ => s
  | .render _ => s
  | .lock _ _ => s
  | .probe _ _ _ => s
  | .respond _ _ _ => s

/-- R17: start a billing flush: the billing area's content is taken and the pending flag cleared. -/
def startBillingFlush (s : State) : State :=
  let image := groupImage s 1
  startBurst .billingFlush 1 (some image)
    (noteBurst .billingFlush (startWrite 1 (carryWait .b (carryWait .a { s with billingPending := false }))))

/-- R15: start a catalogue flush: the group's content is taken and its dirty mark cleared.  The group counts as the one flushed last
from here on, whatever the burst's outcome; R15 does not say whether a flush that ends MEDIUM_FAULT counts (log entry 37). -/
def startCatalogueFlush (g : Nat) (s : State) : State :=
  let image := groupImage s g
  let s := noteBurst .catalogueFlush (startWrite g { s with dirty := s.dirty.filter (· != g) })
  startBurst .catalogueFlush g (some image) { s with upkeep := { s.upkeep with lastGroup := some g } }

/-- R88: start a scrub visit. -/
def startScrub (n : Nat) (s : State) : State :=
  let s := { s with upkeep := { s.upkeep with
    burstCount := s.upkeep.burstCount - 1, due := false, lastBurst := some .scrubVisit, cursor := cursorAfter s n } }
  startBurst (.scrub (s.slot n).generation false) n none s

/-- R94: start a relocation: a target is taken from the pool, and the old slot is read. -/
def startRelocation (old : Nat) (s : State) : State :=
  match takeUsable s s.pool with
  | none => s
  | some (t, pool) =>
    let s := { s.setSlot t { s.slot t with state := .assigned, owner := .relocation old, written := false } with pool := pool }
    startBurst (.relocationRead t (s.slot old).generation false false) old none (noteBurst .relocationRead s)

/-- R91, R95: start the write of the copy in the tile buffer. -/
def startCopy (c : Copy) (s : State) : State :=
  let content := SlotContent.words (packTile c.samples)
  match c.purpose with
  | .writeback kept =>
    startBurst (.writeback kept false) c.slot (some content) (noteBurst .writeback (startWrite c.slot s))
  | .relocation target =>
    startBurst (.relocationWrite c.slot false) target (some content) (noteBurst .relocationWrite (startWrite target s))

/-- Start the work of R83 items 1 and 3 to 5. -/
def startWork (w : UpkeepWork) (s : State) : State :=
  match w with
  | .billing => startBillingFlush s
  | .copy c => startCopy c s
  | .relocate old => startRelocation old s
  | .flush g => startCatalogueFlush g s
  | .scrub n => startScrub n s

/-- R83, R92: what a grant to the upkeep engine starts.  A copy whose slot's write generation has changed is dropped, and the
choice goes on at item 3 for the same grant. -/
def startUpkeep (s : State) : State :=
  match chooseWork s with
  | none => s
  | some (.copy c) =>
    if (s.slot c.slot).generation = c.generation then startCopy c s
    else
      let s := dropCopy s
      match restOfWork s with
      | none => s
      | some w => startWork w s
  | some w => startWork w s

/-! ## Outcomes -/

/-- R16, R90: the outcome of a completed visit to a catalogue region slot. -/
def scrubCatalogue (n : Nat) (r : ReadResult) (s : State) : State :=
  match r with
  | .clean => s
  | .bankOffline => s
  | .mediumFault => s
  | .corrected _ | .uncorrectable _ =>
    if n = 1 then s.billed else if n ≤ lastGroup s then markDirty n s else s

/-- R84: a copy may be placed in the upkeep tile buffer: the part is READY and has been since the read was granted. -/
def placesCopy (noCopy : Bool) (s : State) : Bool := s.device == .ready && !noCopy

/-- R89: the outcome of a completed visit to a tile slot, before the joining of the relocation list. -/
def scrubTile (n : Nat) (generation : BitVec 8) (noCopy : Bool) (d : Delivery) (s : State) : State :=
  let e := s.slot n
  match d.result, e.state with
  | .corrected _, .free =>
    if e.count < 3 then markDirty (markGroup n) (s.setSlot n { e with count := e.count + 1 }) else s
  | .uncorrectable _, .free => retireSlot n s
  | .corrected _, .assigned =>
    if e.relocationPending then s
    else if placesCopy noCopy s then
      { s with upkeep := { s.upkeep with buffer := some ⟨n, generation, d.samples, .writeback e.count⟩ } }
    else s
  | .uncorrectable _, .assigned => recordDamage n s
  | _, _ => s

/-- R88 to R90: a scrub visit's read has ended. -/
def scrubTaken (n : Nat) (generation : BitVec 8) (noCopy : Bool) (d : Delivery) (s : State) : State :=
  if d.result = .mediumFault then s
  else if n < 512 then scrubCatalogue n d.result s
  else joinRelocations n (scrubTile n generation noCopy d s)

/-- R91, R37: a write-back has ended. -/
def writebackTaken (n kept : Nat) (dropped done : Bool) (s : State) : State :=
  if dropped || !done then s
  else joinRelocations n (markDirty (markGroup n) (s.setSlot n { s.slot n with count := min 3 (kept + 1) }))

/-- R94, R37, R84: a relocation's read has ended. -/
def relocationReadTaken (old target : Nat) (generation : BitVec 8) (dropped noCopy : Bool) (d : Delivery) (s : State) :
    State :=
  if dropped || d.result == .mediumFault then returnTarget target s
  else
    let s := match d.result with
      | .uncorrectable _ => recordDamage old s
      | _ => s
    if placesCopy noCopy s then
      { s with upkeep := { s.upkeep with buffer := some ⟨old, generation, d.samples, .relocation target⟩ } }
    else returnTarget target s

/-- R95: the relocation is complete: the tile map switches to the target and the old slot is retired. -/
def switchTile (old target object index : Nat) (s : State) : State :=
  let e := s.slot old
  let t := s.slot target
  let s := s.setSlot target { t with owner := .tile object index, written := e.written, damage := e.damage, count := 0 }
  let s := s.modObject object fun o => { o with tileMap := o.tileMap.set index ⟨target, e.written⟩ }
  let s := retireSlot old (leaveRelocations old s)
  markDirty (markGroup target) (markDirty (objectGroup object) (recountObject object s))

/-- R95, R37: a relocation's write has ended. -/
def relocationWriteTaken (old target : Nat) (dropped done : Bool) (s : State) : State :=
  if dropped || !done then returnTarget target s
  else match (s.slot old).owner with
    | .tile object index => switchTile old target object index s
    | _ => returnTarget target s

/-- R15: a catalogue flush has ended; on MEDIUM_FAULT the dirty mark is set again. -/
def catalogueFlushTaken (g : Nat) (done : Bool) (s : State) : State := if done then s else markDirty g s

/-- R17: a billing flush that carried an operation's change has completed: the operation is answered, or an order's render
begins (R140). -/
def flushedWait (p : Port) (s : State) : State :=
  match (s.port p).op with
  | .flushWait r .inBurst => respond p r none false s
  | .order o =>
    match o.stage with
    | .entryFlush .inBurst => s.setOp p (.order { o with stage := .rendering })
    | .finalFlush .inBurst => respond p (orderResponse s o .done) (some o.render.key) false s
    | .entryFlush .waiting => s
    | .finalFlush .waiting => s
    | .rendering => s
  | _ => s

/-- R17: the billing flush failed: the operations keep waiting for a later one. -/
def unflushedWait (p : Port) (s : State) : State :=
  match (s.port p).op with
  | .flushWait r .inBurst => s.setOp p (.flushWait r .waiting)
  | .order o =>
    match o.stage with
    | .entryFlush .inBurst => s.setOp p (.order { o with stage := .entryFlush .waiting })
    | .finalFlush .inBurst => s.setOp p (.order { o with stage := .finalFlush .waiting })
    | .entryFlush .waiting => s
    | .finalFlush .waiting => s
    | .rendering => s
  | _ => s

/-- R17: a billing flush has ended. -/
def billingFlushTaken (done : Bool) (s : State) : State :=
  if done then flushedWait .b (flushedWait .a s)
  else (unflushedWait .b (unflushedWait .a s)).billed

end Sys2Proof.Machine
end

