-- ==== Sys2Proof/Machine/Preparation.lean ====
section
/-!
DEFINITION. Preparation (R21, R22, R99, R130, R147): the strap word, the probes, the format or the load of the catalogue region,
reconcile, and the end of preparation; and what RESET leaves.
-/

namespace Sys2Proof.Machine

open Sys2Proof

/-! ## RESET -/

/-- R25: what RESET leaves of the burst in flight: a read is abandoned, a write is carried to its end. -/
def carriedBurst (s : State) : Option Burst :=
  match s.burst with
  | none => none
  | some b =>
    match b.content, b.work with
    | none, _ => none
    | some _, .carried _ => some b
    | some _, _ => some { b with work := .carried (s.banks.getD (bankOf b.slot) .online == .suspect) }

/-- R25: RESET asserted: every volatile item takes its reset value; the medium, the POWER_WARN pin and the commands that wait
outside the part are as they were. -/
def resetState (s : State) : State :=
  { State.reset with
    pending := s.pending
    resetAsserted := true
    powerWarn := s.powerWarn
    medium := s.medium
    burst := carriedBurst s
    freeCount := s.freeCount }

/-! ## Strap word and probes -/

/-- R165: the sixteenth bit: the word is latched, and preparation goes on to its probes. -/
def latchStrap (bits : List Bool) (s : State) : State := { s with strap := strapOf bits, prep := .probe 0 }

/-- R20: preparation fails. -/
def fail (s : State) : State := enterState .faulted { s with prep := .finished }

/-- R21 step 2: a probe of preparation has ended. -/
def prepProbeTaken (bank : Nat) (succeeded : Bool) (s : State) : State :=
  let s := setBank bank (if succeeded then .online else .offline) s
  if bank = 0 ∧ succeeded = false then fail s
  else { s with prep := if bank + 1 < bankCount s.strap then .probe (bank + 1) else .marker }

/-! ## Reconcile -/

/-- R22 step 1: each tile slot starts RETIRED or unclaimed, with its damage mark and correction count. -/
def startEntries (s : State) : State :=
  { s with slots := s.slots.filterMap fun (n, e) =>
      if n < 512 then none
      else
        let e' : SlotEntry := ⟨if e.state = .retired then .retired else .free, .none, false, e.damage, e.count, 0, false⟩
        if e' = slotDefault n then none else some (n, e') }

/-- R22 step 2: the edition records, in ascending position; one whose key repeats a lower one's is removed. -/
def checkEditions (s : State) : State :=
  s.editions.foldl (fun s e =>
    if (s.findEdition e.key).isSome then markDirty (editionGroup e.position) s
    else { s with editions := s.editions ++ [e] }) { s with editions := [] }

/-- R22 step 2: an object stands when its edition exists, its kind and sequence are new in it, and it is not the 129th. -/
def objectStands (s : State) (o : ObjectRec) : Bool :=
  (s.findEdition o.key).isSome &&
    !(s.objects.any fun q => q.key == o.key && q.kind == o.kind && q.sequence == o.sequence) &&
    decide ((s.objects.countP fun q => q.key == o.key) < 128)

/-- R22 step 2: the objects, in ascending number; one that does not stand is removed. -/
def checkObjects (s : State) : State :=
  s.objects.foldl (fun s o =>
    if objectStands s o then { s with objects := s.objects ++ [o] } else markDirty (objectGroup o.number) s)
    { s with objects := [] }

/-- R22 step 3: claim the slot of one tile position, or list the position as orphaned. -/
def claimTile (object index : Nat) (m : MapEntry) (acc : State × List (Nat × Nat)) : State × List (Nat × Nat) :=
  let (s, orphans) := acc
  let e := s.slot m.slot
  if 512 ≤ m.slot ∧ m.slot < configuredSlots s ∧ e.state = .free then
    (s.setSlot m.slot { e with state := .assigned, owner := .tile object index, written := m.written }, orphans)
  else (s, orphans ++ [(object, index)])

/-- R22 step 3. -/
def claimAll (s : State) : State × List (Nat × Nat) :=
  s.objects.foldl (fun acc o => o.tileMap.zipIdx.foldl (fun acc (m, i) => claimTile o.number i m acc) acc) (s, [])

/-- R22 step 4. -/
def rebuildLists (s : State) : State :=
  { s with editions := s.editions.map fun e =>
      { e with
        objects := Assoc.sortBy refRank ((s.objects.filter fun o => o.key == e.key).map fun o => ⟨o.number, o.kind, o.sequence⟩)
        writtenUnderLock := false } }

/-- R22 step 5: every tile slot still unclaimed is FREE, in ascending order, whatever its bank. -/
def rebuildPool (s : State) : State :=
  { s with pool := (List.range' 512 (configuredSlots s - 512)).filter fun n => (s.slot n).state == .free }

/-- R22 step 6: one orphaned position takes the slot at the head of the pool. -/
def placeOrphan (object index : Nat) (s : State) : Option State :=
  match s.pool with
  | [] => none
  | n :: pool =>
    let s := { s with pool := pool }.setSlot n
      { s.slot n with state := .assigned, owner := .tile object index, written := false, damage := true }
    let s := s.modObject object fun o =>
      { o with
        writtenCount := if (o.tileMap.getD index ⟨0, false⟩).written then o.writtenCount - 1 else o.writtenCount
        tileMap := o.tileMap.set index ⟨n, false⟩ }
    some (markDirty (markGroup n) (markDirty (objectGroup object) s))

/-- R22 step 6: place every orphan, or fail when the pool is empty. -/
def placeOrphans : List (Nat × Nat) → State → Option State
  | [], s => some s
  | (o, i) :: rest, s =>
    match placeOrphan o i s with
    | none => none
    | some s => placeOrphans rest s

/-- R22 step 8: the relocation list from the ASSIGNED tile slots with count 3 whose bank is not OFFLINE, ascending, up to 16. -/
def rebuildRelocations (s : State) : State :=
  let ns := s.slots.filterMap fun (n, e) =>
    if 512 ≤ n ∧ e.state = .assigned ∧ e.count = 3 ∧ slotOffline s n = false then some n else none
  (ns.take 16).foldl (fun s n => { s.setSlot n { s.slot n with relocationPending := true } with
    relocations := s.relocations ++ [n] }) { s with relocations := [] }

/-- R22: reconcile; none when an orphan cannot be placed. -/
def reconcile (s : State) : Option State :=
  let s := checkObjects (checkEditions (startEntries s))
  let (s, orphans) := claimAll s
  match placeOrphans orphans (rebuildPool (rebuildLists s)) with
  | none => none
  | some s => some (rebuildRelocations (recountWhere (fun _ => true) s))

/-- R99: rebuild the damage list from the objects with a damaged tile, in ascending number; the first 128 join, the others have
their withheld marks set. -/
def rebuildDamage (s : State) : State :=
  let damaged := s.objects.filter fun o => (firstDamaged s o).isSome
  let later := (damaged.drop 128).map (·.number)
  { s with
    damage := (damaged.take 128).map (damageEntry s)
    objects := s.objects.map fun o => { o with withheld := later.contains o.number }
    overflow := !later.isEmpty }

/-- R130: the billing copy of the year is the authority. -/
def reconcileYear (s : State) : State := if s.year = s.billingYear then s else markDirty 2 { s with year := s.billingYear }

/-- R21 steps 4 to 7: reconcile, void, rebuild the damage list and leave PREPARING. -/
def endPreparation (s : State) : State :=
  match reconcile (reconcileYear s) with
  | none => fail s
  | some s =>
    enterState (if s.powerWarn then .flushing else .ready) { rebuildDamage (voidAll s) with prep := .finished }

/-! ## Format and load -/

/-- R21 step 3: the on-chip tables of a blank archive. -/
def blankTables (s : State) : State :=
  { s with
    editions := [], objects := [], slots := [], curves := List.replicate 8 CurveSet.blank, schedule := Schedule.blank,
    year := 2000, accounts := List.replicate 64 Account.blank, journal := [], sequence := 0, billingYear := 2000 }

/-- R21 step 3: whether the marker's content, as read, holds the pattern, and with which version. -/
def markerOf (s : State) : SlotContent → List WordError → Option MarkerVersion
  | c, errors =>
    if heavyErrors errors then Config.unknownMarker s.freeCount
    else match c with
      | .image (.marker v) => some v
      | .unknown n => Config.unknownMarker n
      | .image _ => none
      | .words _ => none

/-- R21 step 3: the read of the format marker has ended. -/
def prepMarkerTaken (r : ReadEnd) (s : State) : State :=
  let d := deliver s 0 r
  match d.result, r with
  | .clean, .delivered errors | .corrected _, .delivered errors =>
    match markerOf s (mediumRead s.medium 0) errors with
    | some .current => { s with prep := .load 1 }
    | some .other => fail s
    | none => { blankTables s with prep := .format 1 }
  | _, _ => fail s

/-- R21 step 3: a format write has ended; slots 1 to the last group in ascending order, and slot 0 last. -/
def prepFormatTaken (g : Nat) (done : Bool) (s : State) : State :=
  if !done then fail s
  else if g = 0 then endPreparation s
  else { s with prep := .format (if g = lastGroup s then 0 else g + 1) }

/-- R21, R22: the marks of a slot mark group go into the slot table. -/
def loadMarks (ms : List SlotMarks) (s : State) : State :=
  ms.foldl (fun s m => s.setSlot m.slot
    { s.slot m.slot with state := if m.retired then .retired else (s.slot m.slot).state, damage := m.damage, count := m.count }) s

/-- R21: take the billing image into the on-chip tables. -/
def loadBilling (i : BillingImage) (s : State) : State :=
  { s with accounts := i.accounts, journal := i.journal, sequence := i.sequence, billingYear := i.year }

def loadSettings (i : SettingsImage) (s : State) : State :=
  { s with curves := i.curves, schedule := i.schedule, year := i.year }

/-- R27: the edition table holds one record for each position: a record loaded there replaces what stood there. -/
def putEdition (e : EditionRec) (es : List EditionRec) : List EditionRec :=
  Assoc.insertBy (·.position) e (es.filter fun q => q.position != e.position)

/-- R28: the object table holds one record for each number. -/
def putObject (o : ObjectRec) (os : List ObjectRec) : List ObjectRec :=
  Assoc.insertBy (·.number) o (os.filter fun q => q.number != o.number)

/-- R21: an edition record as it is loaded, its volatile fields empty. -/
def loadedEdition (e : EditionImage) : EditionRec := { toEditionImage := e, objects := [], writtenUnderLock := false }

/-- R21: an object record as it is loaded. -/
def loadedObject (o : ObjectImage) : ObjectRec := { toObjectImage := o, impairedCount := 0, withheld := false }

def loadEditions (es : List EditionImage) (s : State) : State :=
  { s with editions := es.foldl (fun t e => putEdition (loadedEdition e) t) s.editions }

def loadObjects (os : List ObjectImage) (s : State) : State :=
  { s with objects := os.foldl (fun t o => putObject (loadedObject o) t) s.objects }

/-! ## Groups whose content is unknown -/

/-- A free number brought into the `size` numbers from `lo` on. -/
def fitFrom (lo size v : Nat) : Nat := lo + v % size

/-- R26. -/
def fitKey (k : EditionKey) : EditionKey := ⟨fitFrom 1800 400 k.year, fitFrom 1 12 k.month, fitFrom 1 31 k.day, fitFrom 1 9 k.issue⟩

/-- R26, R27. -/
def fitEdition (position : Nat) (e : EditionImage) : EditionImage :=
  { e with position := position, key := fitKey e.key, era := e.era % 8, revision := e.revision % 65536 }

/-- R28: the tile map has width × height entries, each with a slot number of 16 bits (R1); the written tile count is theirs; a PAGE
is PRINT. -/
def fitObject (number : Nat) (o : ObjectImage) : ObjectImage :=
  let w := fitFrom 1 16 o.width
  let h := fitFrom 1 24 o.height
  let map : List MapEntry := (List.range (w * h)).map fun i =>
    let m := o.tileMap.getD i ⟨0, false⟩
    ⟨m.slot % 65536, m.written⟩
  { o with
    number := number, key := fitKey o.key, sequence := fitFrom 1 127 o.sequence, width := w, height := h
    polarity := (match o.kind with | .page => .print | .photo => o.polarity)
    tileMap := map, writtenCount := map.countP (·.written) }

/-- R131, R132: the flag is set only at the greatest tally. -/
def fitAccount (a : Account) : Account :=
  { a with
    discount := a.discount % 51, orders := a.orders % 65536
    tally := if a.saturated then tallyLimit else a.tally % (tallyLimit + 1) }

/-- R125, R126, R138: the fields filled at acceptance. -/
def fitEntry (e : JournalEntry) : JournalEntry :=
  { e with
    account := e.account % 64, object := e.object % 8192, key := fitKey e.key, revision := e.revision % 65536
    sizeClass := e.sizeClass % 8, rightsClass := e.rightsClass % 4, quantity := fitFrom 1 999 e.quantity
    band := e.band % 8, unit2 := e.unit2 % 15999985
    gross := min grossLimit (e.unit2 % 15999985 * fitFrom 1 999 e.quantity)
    saturated := decide (grossLimit < e.unit2 % 15999985 * fitFrom 1 999 e.quantity)
    damageDiscount := e.damageDiscount % 91, minimum := e.minimum % 1000000, discount := e.discount % 51 }

/-- R127, R128, R137, R138: the fields filled at completion: a FINAL entry's are those of its charge, a VOID entry has none, and only
the newest entry can be PROVISIONAL. -/
def fitOutcome (newest : Bool) (e : JournalEntry) : JournalEntry :=
  match e.state with
  | .final =>
    let g := e.grade.getD .full
    { e with grade := some g, net := (charge e g).net, discountClamped := (charge e g).discountClamped
             minApplied := (charge e g).minApplied }
  | .provisional => { voidEntry e with state := if newest then .provisional else .void }
  | .void => voidEntry e

/-- R137: the entries of a journal carry consecutive numbers, the newest one less than the sequence number. -/
def fitJournal (next : BitVec 32) (es : List JournalEntry) : List JournalEntry :=
  es.zipIdx.map fun (e, i) =>
    { fitOutcome (i + 1 == es.length) (fitEntry e) with sequence := next - BitVec.ofNat 32 (es.length - i) }

/-- R113. -/
def fitCurve (c : Curve) : Curve := ⟨(List.range 9).map fun i => c.knots.getD i 0 % 256, c.lift % 64 - 32⟩

/-- R117. -/
def fitSchedule (f : Schedule) : Schedule :=
  let row (n : Nat) (lo size : Nat) (l : List Nat) : List Nat := (List.range n).map fun i => fitFrom lo size (l.getD i 0)
  { base := row 8 0 1000000 f.base, bound := row 8 0 401 f.bound, surcharge := row 8 0 301 f.surcharge
    rights := row 4 25 376 f.rights, damageDiscount := f.damageDiscount % 91, minimum := f.minimum % 1000000 }

/-- R13, R131, R137: the billing group of unknown content (log entry 14). -/
def unknownBilling (n : Nat) : BillingImage :=
  { accounts := (List.range 64).map fun i => fitAccount (Config.unknownAccount n i)
    journal := fitJournal (Config.unknownSequence n) ((List.range 128).filterMap (Config.unknownEntry n))
    sequence := Config.unknownSequence n
    year := fitFrom 1800 400 (Config.unknownYear n 1) }

/-- R13: the settings group of unknown content. -/
def unknownSettings (n : Nat) : SettingsImage :=
  { curves := (List.range 8).map fun i =>
      let t := Config.unknownCurveSet n i
      ⟨fitCurve t.print, fitCurve t.negative, t.fill % 256⟩
    schedule := fitSchedule (Config.unknownSchedule n)
    year := fitFrom 1800 400 (Config.unknownYear n 2) }

/-- R13: an edition group of unknown content: records of its 256 positions only. -/
def unknownEditions (g n : Nat) : List EditionImage :=
  (List.range' (256 * (g - 3)) 256).filterMap fun p => (Config.unknownEdition n p).map (fitEdition p)

/-- R13: an object group of unknown content: records of its 32 numbers only. -/
def unknownObjects (g n : Nat) : List ObjectImage :=
  (List.range' (32 * (g - 11)) 32).filterMap fun k => (Config.unknownObject n k).map (fitObject k)

/-- R13: a slot mark group of unknown content: marks of the tile slots among its 4,096 slots only. -/
def unknownMarks (g n : Nat) : List SlotMarks :=
  (List.range' (4096 * (g - 267)) 4096).filterMap fun k =>
    if k < 512 then none
    else
      let m := Config.unknownMark n k
      some ⟨k, m.retired, m.damage, m.count % 4⟩

/-- R4, R13, R21: a group whose content is unknown loads as free values, in the records that the group holds and in the ranges that
their rules set (log entry 14). -/
def loadUnknown (g n : Nat) (s : State) : State :=
  if g = 1 then loadBilling (unknownBilling n) s
  else if g = 2 then loadSettings (unknownSettings n) s
  else if g ≤ 10 then loadEditions (unknownEditions g n) s
  else if g ≤ 266 then loadObjects (unknownObjects g n) s
  else loadMarks (unknownMarks g n) s

/-- R21: take a group's content into the on-chip tables; a group that was never written adds nothing. -/
def loadGroup (g : Nat) (c : SlotContent) (s : State) : State :=
  match c with
  | .words _ => s
  | .unknown n => loadUnknown g n s
  | .image (.marker _) => s
  | .image (.billing i) => loadBilling i s
  | .image (.settings i) => loadSettings i s
  | .image (.editions es) => loadEditions es s
  | .image (.objects os) => loadObjects os s
  | .image (.marks ms) => loadMarks ms s

/-- R21 step 3: a load read has ended: the group is taken, one read with corrected words marked dirty, and the load goes on. -/
def prepLoadTaken (g : Nat) (r : ReadEnd) (s : State) : State :=
  let load (errors : List WordError) (s : State) : State :=
    if heavyErrors errors then loadUnknown g s.freeCount s else loadGroup g (mediumRead s.medium g) s
  let go (s : State) : State :=
    if g = lastGroup s then endPreparation s else { s with prep := .load (g + 1) }
  match (deliver s g r).result, r with
  | .clean, .delivered errors => go (load errors s)
  | .corrected _, .delivered errors => go (if g = 1 then (load errors s).billed else markDirty g (load errors s))
  | _, _ => fail s

/-- R21: the burst that preparation makes next, once none is in flight. -/
def prepStart (s : State) : Option State :=
  if s.device ≠ .preparing ∨ s.burst.isSome then none
  else match s.prep with
    | .strap _ => none
    | .probe b => some (startBurst .prepProbe (b * 16384) none s)
    | .marker => some (startBurst .prepMarker 0 none s)
    | .format g => some (startBurst .prepFormat g (some (groupImage s g)) (startWrite g s))
    | .load g => some (startBurst .prepLoad g none s)
    | .finished => none

end Sys2Proof.Machine
end

