-- ==== Sys2Proof/Machine/Engine.lean ====
section
/-!
DEFINITION. What the part does of its own accord inside a step: the store arbiter's grants (chapter 4), the progress of the
operation in flight on each port, the start of commands, notices from pending marks, the end of FLUSHING, and preparation's
next burst.  `settle` runs these until nothing more can happen without a further event.
-/

namespace Sys2Proof.Machine

open Sys2Proof

/-! ## Results of a port's bursts -/

/-- The slot that an object's tile map names for a tile (R55). -/
def tileSlot (s : State) (object index : Nat) : Nat :=
  match s.findObject object with
  | some o => (o.tileMap.getD index ⟨0, false⟩).slot
  | none => 0

/-- An object's width in tiles. -/
def objectWidth (s : State) (object : Nat) : Nat :=
  match s.findObject object with
  | some o => o.width
  | none => 0

/-- R96: a master's read records damage when it is uncorrectable. -/
def masterDamage (slot : Nat) (r : ReadResult) (s : State) : State :=
  match r with
  | .uncorrectable _ => recordDamage slot s
  | _ => s

/-- R52, R53: a store's read-merge has ended. -/
def storeReadTaken (index slot : Nat) (d : Delivery) (s : State) : State :=
  match s.portA.op with
  | .store c =>
    if d.result = .mediumFault then (if s.portA.restart = .none then storeFaulted c s else s)
    else (masterDamage slot d.result s).setOp .a
      (.store (c.modTile index fun t => { t with read := true, samples := d.samples }))
  | _ => s

/-- R56, first step: what a store's write burst does when it starts. -/
def storeWriteStart (object slot : Nat) (s : State) : State :=
  let s := startWrite slot s
  let s := match s.upkeep.buffer with
    | some copy => if copy.slot = slot then dropCopy s else s
    | none => s
  match s.findObject object with
  | none => s
  | some o => s.modEdition o.key fun e => { e with writtenUnderLock := e.writtenUnderLock || e.state == .closed }

/-- R56, second step: what a store's write burst does to the slot and the object when it completes. -/
def storeWriteEffect (object index slot : Nat) (whole : Bool) (s : State) : State :=
  let fresh := match s.findObject object with
    | some o => !(o.tileMap.getD index ⟨0, false⟩).written
    | none => false
  let e := s.slot slot
  let s := s.setSlot slot { e with written := true, damage := e.damage && !whole }
  let s := if fresh then
      markDirty (objectGroup object) (s.modObject object fun o =>
        { o with tileMap := o.tileMap.set index ⟨slot, true⟩, writtenCount := o.writtenCount + 1 })
    else s
  if e.damage && whole then recountObject object (markDirty (markGroup slot) s) else s

/-- R55 to R57: a store's write has ended. -/
def storeWriteTaken (index slot : Nat) (done : Bool) (s : State) : State :=
  match s.portA.op with
  | .store c =>
    if done then
      match c.tiles.find? fun t => t.index == index with
      | none => s
      | some t =>
        (storeWriteEffect c.object index slot (t.full && t.taken == 16384) s).setOp .a
          (.store { c.modTile index (fun t => { t with writeDone := true }) with committed := c.committed + t.taken })
    else if s.portA.restart = .none then storeFaulted c s
    else s
  | _ => s

/-- The context of the render in progress on a port, whether a RENDER's or an order's. -/
def Op.renderCtx : Op → Option RenderCtx
  | .render c => some c
  | .order ⟨_, .rendering, c⟩ => some c
  | .order ⟨_, .entryFlush _, _⟩ => none
  | .order ⟨_, .finalFlush _, _⟩ => none
  | .idle => none
  | .store _ => none
  | .lock _ _ => none
  | .probe _ _ _ => none
  | .flushWait _ _ => none
  | .respond _ _ _ => none

/-- Put a render's context back into its operation. -/
def Op.withRender (op : Op) (c : RenderCtx) : Op :=
  match op with
  | .render _ => .render c
  | .order o => .order { o with render := c }
  | other => other

/-- R105: a render's read has ended.  The class looks at the damage mark as it stands when the read ends. -/
def renderReadTaken (p : Port) (slot : Nat) (d : Delivery) (s : State) : State :=
  match (s.port p).op.renderCtx with
  | none => s
  | some c =>
    match s.findObject c.object with
    | none => s
    | some o =>
      match c.nextTile o with
      | none => s
      | some tile =>
        (masterDamage slot d.result s).setOp p ((s.port p).op.withRender (c.takeRead tile d (s.slot slot).damage))

/-- R7: a SERVICE_BANK's probe has ended. -/
def probeTaken (bank : Nat) (succeeded : Bool) (s : State) : State :=
  let s := setBank bank (if succeeded then .online else .offline) s
  match s.portA.op with
  | .probe tag _ _ =>
    respond .a ⟨tag, .done, if succeeded then none else some .mediumFault, [], []⟩ none false s
  | _ => s

/-! ## The store arbiter -/

/-- R64, R70: the port holds a request for a burst. -/
def portRequests (p : Port) (s : State) : Bool :=
  (s.port p).restart == .none &&
    match (s.port p).op with
    | .store c =>
      match c.bandPhase with
      | .read => c.ending.isNone && c.nextRead.isSome
      | .fill => false
      | .write => c.nextWrite.isSome
    | .probe _ _ granted => !granted
    | .render c => c.bandPhase == .read && c.asked && !c.cancelled && (s.port p).hasPlace
    | .order ⟨_, .rendering, c⟩ => c.bandPhase == .read && c.asked && !c.cancelled && (s.port p).hasPlace
    | .order ⟨_, .entryFlush _, _⟩ => false
    | .order ⟨_, .finalFlush _, _⟩ => false
    | .idle => false
    | .lock _ _ => false
    | .flushWait _ _ => false
    | .respond _ _ _ => false

/-- R64, R65: the upkeep-pending flag: the upkeep engine holds a request while its work choice would select some work. -/
def upkeepRequests (s : State) : Bool := (chooseWork s).isSome

/-- R68: the choice between two requesting masters. -/
def chooseMaster (s : State) : Port :=
  if aFirst s.strap then .a
  else
    let other : Port → Port := fun | .a => .b | .b => .a
    match s.arbiter.selected, s.arbiter.lastMaster with
    | some (.port m), _ => if s.arbiter.runCount < 4 then m else other m
    | some .upkeep, some m => other m
    | some .upkeep, none => .a
    | none, some m => other m
    | none, none => .a

/-- R66 to R68: the decision when a burst has ended. -/
def decision (s : State) : Option Requester :=
  let a := portRequests .a s
  let b := portRequests .b s
  let masterLast := match s.arbiter.selected with
    | some (.port _) => true
    | _ => false
  if upkeepRequests s && masterLast then some .upkeep
  else if a && b then some (.port (chooseMaster s))
  else if a then some (.port .a)
  else if b then some (.port .b)
  else if upkeepRequests s then some .upkeep
  else none

/-- The requests present, in a fixed order. -/
def requestsPresent (s : State) : List Requester :=
  (if portRequests .a s then [.port .a] else []) ++ (if portRequests .b s then [.port .b] else []) ++
    (if upkeepRequests s then [.upkeep] else [])

/-- R65: what a grant does to the arbiter's state. -/
def grantState (r : Requester) (g : Arbiter) : Arbiter :=
  match r with
  | .upkeep => { g with busy := true, selected := some .upkeep, runCount := 0, deciding := false }
  | .port m =>
    { g with
      busy := true, selected := some (.port m), lastMaster := some m, deciding := false,
      runCount := if g.selected = some (.port m) then min 4 (g.runCount + 1) else 1 }

def granted (r : Requester) (s : State) : State := { s with arbiter := grantState r s.arbiter }

/-- R55, R64, R69: grant a port its burst.  The slot is settled now; in an OFFLINE bank a read or write ends at once without a
burst and without a grant. -/
def grantPort (p : Port) (s : State) : State :=
  match (s.port p).op with
  | .store c =>
    match c.bandPhase with
    | .read =>
      match c.nextRead with
      | none => s
      | some t =>
        let n := tileSlot s c.object t.index
        if slotOffline s n then storeReadTaken t.index n offlineDelivery s
        else startBurst (.storeRead t.index) n none (granted (.port p) s)
    | .fill => s
    | .write =>
      match c.nextWrite with
      | none => s
      | some t =>
        let n := tileSlot s c.object t.index
        if slotOffline s n then storeWriteTaken t.index n false s
        else startBurst (.storeWrite t.index) n (some (.words (packTile t.samples)))
          (granted (.port p) (storeWriteStart c.object n s))
  | .probe tag bank _ =>
    startBurst .probe (bank * 16384) none (granted (.port p) (s.setOp p (.probe tag bank true)))
  | op =>
    match op.renderCtx with
    | none => s
    | some c =>
      match s.findObject c.object with
      | none => s
      | some o =>
        match c.nextTile o with
        | none => s
        | some tile =>
          let n := tileSlot s c.object tile
          if slotOffline s n then renderReadTaken p n offlineDelivery s
          else startBurst (.renderRead p) n none (granted (.port p) s)

/-- Grant the chosen requester. -/
def grant (r : Requester) (s : State) : State :=
  match r with
  | .port p => grantPort p s
  | .upkeep =>
    let s' := startUpkeep s
    if s'.burst.isSome then granted .upkeep s' else s'

/-- R71: the device states in which the arbiter grants. -/
def arbiterActive (s : State) : Bool := s.device == .ready || s.device == .flushing

/-- R66: a grant decision, when one is due and the store is idle.  At the end of a burst it is R67 and R68's; a request that
appears at an idle store is granted at once, and of several that appear together one is taken first.  Where the arbiter grants
nothing (R71), a burst's end leaves no decision due. -/
def arbitrate (s : State) : Option State :=
  if s.burst.isSome then none
  else if !arbiterActive s then
    (if s.arbiter.deciding then some { s with arbiter := { s.arbiter with deciding := false } } else none)
  else if s.arbiter.deciding then
    match decision s with
    | some r => some (grant r s)
    | none => some { s with arbiter := { s.arbiter with deciding := false } }
  else
    match requestsPresent s with
    | [] => none
    | [r] => some (grant r s)
    | rs =>
      some (grant (rs.getD (Config.firstRequest s.freeCount % rs.length) .upkeep) { s with freeCount := s.freeCount + 1 })

/-! ## Progress of the operation in flight -/

/-- R51 to R61: the next move of a store that needs no event. -/
def advanceStore (c : StoreCtx) (s : State) : Option State :=
  match c.bandPhase with
  | .read =>
    if c.ending.isSome then
      if portInBurst .a s then none else some (respond .a (c.response c.endStatus none) none true s)
    else if c.nextRead.isSome then none
    else some (s.setOp .a (.store { c with bandPhase := .fill }))
  | .fill =>
    match s.portA.inq with
    | [] => none
    | r :: rest =>
      if headerIsData r.header then
        let (c', finished) := c.takeRecord (objectWidth s c.object) r.payload
        some (s.modPort .a fun e => { e with op := .store c', inq := if finished then rest else e.inq })
      else some (s.setOp .a (.store (c.endNow .short)))
  | .write =>
    if portInBurst .a s || c.nextWrite.isSome then none
    else if c.ending.isSome then some (respond .a (c.response c.endStatus none) none true s)
    else if c.cursor = c.count then some (respond .a (c.response .done none) none true s)
    else match s.findObject c.object with
      | none => none
      | some o => some (s.setOp .a (.store (c.enterBand o (c.band + 1))))

/-- R102, R110, R142: a render's last record has been placed: a RENDER's response is made, an order takes its completion step, and
the snapshot is discarded. -/
def renderDone (p : Port) (c : RenderCtx) (s : State) : State :=
  dropSnapshot p (match (s.port p).op with
    | .order o => completeOrder p o s
    | _ => respond p (c.response .done c.count (snapshotSet s p)) (some c.key) false s)

/-- R111, R143: a render that was told to end, its read in flight having completed. -/
def renderStopped (p : Port) (c : RenderCtx) (s : State) : State :=
  match (s.port p).op with
  | .order o => orderCancelled p o s
  | _ => renderCancelled p c s

/-- R105: the turn of a tile that needs no read, or the request for its read. -/
def turnTile (c : RenderCtx) (o : ObjectRec) (tile : Nat) (s : State) : RenderCtx :=
  let m := o.tileMap.getD tile ⟨0, false⟩
  let impaired := slotImpaired s m.slot
  if !m.written then c.takeTile tile .fill impaired true 0
  else if impaired then c.takeTile tile .fill true false 0
  else { c with asked := true }

/-- R108, R109: the next move of BAND_EMIT: a complete record is placed where the queue has a place and holds otherwise; else
output is packed, or the next band entered. -/
def advanceEmit (p : Port) (c : RenderCtx) (o : ObjectRec) (s : State) : Option State :=
  let op := (s.port p).op
  if c.recordComplete then
    if (s.port p).hasPlace then
      some ((pushOut p (.data c.record) s).setOp p
        (op.withRender { c with record := [], wordsPlaced := c.wordsPlaced + c.record.length }))
    else none
  else if c.cursor = c.count then some (renderDone p c s)
  else if c.cursor < c.bandEnd c.band then
    match (s.port p).snapshot with
    | none => none
    | some t => some (s.setOp p (op.withRender (c.emit o t.curves)))
  else some (s.setOp p (op.withRender
    { c with band := c.nextBand c.cursor 32 (c.band + 1), bandPhase := .read, classes := [], asked := false }))

/-- R104 to R111: the next move of a render that needs no event.  In BAND_READ the turns of tiles that need no read are taken also
while the response queue is full: R109 withdraws the request for a read, and says nothing of them (log entry 41). -/
def advanceRender (p : Port) (c : RenderCtx) (s : State) : Option State :=
  if portInBurst p s then none
  else if c.cancelled then some (renderStopped p c s)
  else match s.findObject c.object with
    | none => none
    | some o =>
      match c.bandPhase with
      | .read =>
        if c.asked then none
        else match c.nextTile o with
          | some tile => some (s.setOp p ((s.port p).op.withRender (turnTile c o tile s)))
          | none => some (s.setOp p ((s.port p).op.withRender { c with bandPhase := .emit }))
      | .emit => advanceEmit p c o s

/-- R153, R154: a response that is ready is placed when a place is free; its command ends. -/
def placeResponse (p : Port) (r : Response) (s : State) : Option State :=
  if (s.port p).hasPlace then some (endOp p (pushOut p (.response r) s)) else none

/-- R157: the next move of a RESTART under way. -/
def advanceRestart (p : Port) (s : State) : Option State :=
  match (s.port p).restart with
  | .none => none
  | .ending => if portInBurst p s then none else some (restartEnds p s)
  | .answering =>
    if (s.port p).hasPlace then
      some ((pushOut p (.response restartedResponse) s).modPort p fun e => { e with restart := .none })
    else none

/-- The next move of the operation in flight on a port. -/
def advance (p : Port) (s : State) : Option State :=
  if (s.port p).restart ≠ .none then advanceRestart p s
  else match (s.port p).op with
    | .store c => advanceStore c s
    | .render c => advanceRender p c s
    | .order ⟨_, .rendering, c⟩ => advanceRender p c s
    | .order ⟨_, .entryFlush _, _⟩ => none
    | .order ⟨_, .finalFlush _, _⟩ => none
    | .respond _ _ _ => none
    | .idle => none
    | .lock _ _ => none
    | .probe _ _ _ => none
    | .flushWait _ _ => none

/-- R154: a response that has been made is placed at once where a place is free, before any record that is made later. -/
def placeMade (p : Port) (s : State) : Option State :=
  match (s.port p).restart, (s.port p).op with
  | .none, .respond r _ _ => placeResponse p r s
  | _, _ => none

/-- R51, R64, R104: the operation in flight is in a phase that requests bursts: BAND_READ or BAND_WRITE of a store, BAND_READ of a
render. -/
def inRequestPhase (p : Port) (s : State) : Bool :=
  match (s.port p).op with
  | .store c => c.bandPhase != .fill
  | op =>
    match op.renderCtx with
    | some c => c.bandPhase == .read
    | none => false

/-- R66: the moves by which a port's operation, its burst ended, comes to its next request or leaves the phase that requests
bursts. -/
def advanceToRequest (p : Port) (s : State) : Option State := if inRequestPhase p s then advance p s else none

/-- R66, R68: the decision due at a burst's end, made before a store goes on in BAND_FILL or a render in BAND_EMIT. -/
def arbitrateDue (s : State) : Option State := if s.arbiter.deciding then arbitrate s else none

/-! ## Notices, inbound records and commands -/

/-- R154, R155: a place is free and a mark pending: a notice is placed for it, BANK_STATE first, then DEVICE_STATE, then
STRAY_DATA, with the values as they now stand. -/
def placeMark (p : Port) (s : State) : Option State :=
  let e := s.port p
  if !e.hasPlace then none
  else match e.bankMark, e.deviceMark, e.strayMark with
    | some bank, _, _ => some ((pushOut p (.notice (bankNotice s bank true)) s).modPort p fun e => { e with bankMark := none })
    | none, true, _ =>
      some ((pushOut p (.notice (.deviceState s.device true)) s).modPort p fun e => { e with deviceMark := false })
    | none, false, some m =>
      some ((pushOut p (.notice (.strayData m.length m.count true)) s).modPort p fun e => { e with strayMark := none })
    | none, false, none => none

/-- R149: a DATA record whose length is 0 or above 256 is malformed. -/
def malformed (r : InRecord) : Bool :=
  headerIsData r.header && (headerLength r.header == 0 || 256 < headerLength r.header)

/-- R149: a record enters the input queue; a malformed DATA record is discarded with a STRAY_DATA notice, and a COMMAND record
that is too long enters as its header alone. -/
def enterRecord (p : Port) (r : InRecord) (s : State) : State :=
  if malformed r then raiseStray (headerLength r.header) p s
  else if 256 < headerLength r.header then s.modPort p fun e => { e with inq := e.inq ++ [⟨r.header, []⟩] }
  else s.modPort p fun e => { e with inq := e.inq ++ [r] }

/-- R149: a place has freed, and the record held outside the queue enters it. -/
def enterHeld (p : Port) (s : State) : Option State :=
  match (s.port p).held with
  | none => none
  | some r =>
    if (s.port p).inq.length < 8 then some (enterRecord p r (s.modPort p fun e => { e with held := none })) else none

/-- The operation in flight takes data records (R63, R150): a store, until its response has been placed. -/
def takesData : Op → Bool
  | .store _ => true
  | .respond _ _ store => store
  | _ => false

/-- R63, R150: the record at the head of the input queue is a stray data record.  With another operation than a store in flight it
strays at once, as R63's first sentence and R150's table give, and does not wait for that operation's end (log entry 39). -/
def strayAtHead (p : Port) (s : State) : Bool :=
  match (s.port p).inq with
  | [] => false
  | r :: _ => headerIsData r.header && (s.port p).restart == .none && !takesData (s.port p).op

/-- R150, R154: the record at the head of the input queue is a command that can start. -/
def commandAtHead (p : Port) (s : State) : Bool :=
  match (s.port p).inq with
  | [] => false
  | r :: _ => !headerIsData r.header && (s.port p).restart == .none && (s.port p).op == .idle && (s.port p).hasPlace &&
      (s.port p).noMarks

/-- R151 check 2, R162: the payload length of each command code. -/
def commandLength : Nat → Nat
  | 1 => 3
  | 2 => 6
  | 4 => 3
  | 6 => 8
  | 10 => 0
  | 12 => 0
  | 13 => 12
  | 14 => 2
  | 15 => 5
  | 16 => 0
  | 21 => 2
  | 24 => 3
  | 26 => 0
  | 28 => 2
  | 30 => 7
  | 32 => 0
  | _ => 1

/-- R162: parameter `i` of a command. -/
def param (r : InRecord) (i : Nat) : Word := r.payload.getD i 0

/-- R162: run the command of a code with the parameters of its record, in the order its rule lists them. -/
def runCommand (code : Nat) (p : Port) (tag : Tag) (r : InRecord) (s : State) : State :=
  match code with
  | 1 => openEditionRun p tag (param r 0) (param r 1) (param r 2) s
  | 2 => defineObjectRun p tag (param r 0) (param r 1) (param r 2) (param r 3) (param r 4) (param r 5) s
  | 3 => closeEditionRun p tag (param r 0) s
  | 4 => amendEditionRun p tag (param r 0) (param r 1) (param r 2) s
  | 5 => withdrawEditionRun p tag (param r 0) s
  | 6 => putWindowRun p tag (param r 0) (param r 1) (param r 2) (param r 3) (param r 4) (param r 5) (param r 6) (param r 7) s
  | 7 => serviceBankRun p tag (param r 0) s
  | 8 => lockEditionRun p tag (param r 0) s
  | 9 => unlockEditionRun p tag (param r 0) s
  | 10 => scrubStrobeRun p tag s
  | 11 => scrubBurstRun p tag (param r 0) s
  | 12 => takeDamageRun p tag s
  | 13 => writeCurveRun p tag (param r 0) (param r 1) ((r.payload.drop 2).take 9) (param r 11) s
  | 14 => writeFillRun p tag (param r 0) (param r 1) s
  | 15 => orderReprintRun p tag (param r 0) (param r 1) (param r 2) (param r 3) (param r 4) s
  | 16 => takeChargeRun p tag s
  | 17 => openAccountRun p tag (param r 0) s
  | 18 => suspendAccountRun p tag (param r 0) s
  | 19 => resumeAccountRun p tag (param r 0) s
  | 20 => closeAccountRun p tag (param r 0) s
  | 21 => setDiscountRun p tag (param r 0) (param r 1) s
  | 22 => readTallyRun p tag (param r 0) s
  | 23 => clearTallyRun p tag (param r 0) s
  | 24 => writeScheduleRun p tag (param r 0) (param r 1) (param r 2) s
  | 25 => setYearRun p tag (param r 0) s
  | 26 => readStatusRun p tag s
  | 27 => readEditionRun p tag (param r 0) s
  | 28 => readObjectRun p tag (param r 0) (param r 1) s
  | 29 => listEditionsRun p tag (param r 0) s
  | 30 => renderRun p tag (param r 0) (param r 1) (param r 2) (param r 3) (param r 4) (param r 5) (param r 6) s
  | 31 => readCurveRun p tag (param r 0) s
  | 32 => readScheduleRun p tag s
  | _ => refuse p tag .unknownCommand s

/-- R161: the tag of an inbound header word. -/
def headerTag (h : Word) : Tag := h.setWidth 8

/-- R151 checks 1 and 2, then the command itself. -/
def runRecord (p : Port) (r : InRecord) (s : State) : State :=
  let h := r.header
  if ¬ headerIsKnown h then refuse p (headerTag h) .unknownCommand s
  else if headerLength h ≠ commandLength (headerCode h) then refuse p (headerTag h) .badField s
  else runCommand (headerCode h) p (headerTag h) r s

/-- R150: the port engine takes the record at the head of its input queue: a stray record is discarded with a STRAY_DATA notice
(R63), a command is started. -/
def takeHead (p : Port) (s : State) : State :=
  match (s.port p).inq with
  | [] => s
  | r :: rest =>
    let s := s.modPort p fun e => { e with inq := rest }
    if headerIsData r.header then raiseStray (headerLength r.header) p s else runRecord p r s

def canTake (p : Port) (s : State) : Bool := strayAtHead p s || commandAtHead p s

/-- R150: a port takes the record at its head; where both could at the same moment, either may go first. -/
def inbound (s : State) : Option State :=
  match canTake .a s, canTake .b s with
  | true, false => some (takeHead .a s)
  | false, true => some (takeHead .b s)
  | true, true => some (takeHead (Config.firstPort s.freeCount) { s with freeCount := s.freeCount + 1 })
  | false, false => none

/-! ## The end of FLUSHING -/

/-- R23, R24: nothing is in flight on the port but an operation waiting for a billing flush.  A RESTART that has not yet queued its
response counts as in flight here, which the spec leaves open (log entry 44). -/
def onlyWaiting (p : Port) (s : State) : Bool :=
  (s.port p).restart == .none &&
    match (s.port p).op with
    | .idle => true
    | .flushWait _ _ => true
    | .order ⟨_, .finalFlush _, _⟩ => true
    | .order ⟨_, .entryFlush _, _⟩ => false
    | .order ⟨_, .rendering, _⟩ => false
    | .store _ => false
    | .render _ => false
    | .lock _ _ => false
    | .probe _ _ _ => false
    | .respond _ _ _ => false

/-- R23: nothing is in flight on the port, nor a RESTART that has not yet queued its response (log entry 44). -/
def portIdle (p : Port) (s : State) : Bool := (s.port p).restart == .none && (s.port p).op == .idle

/-- R20: where FLUSHING leads. -/
def leaveFlushing (s : State) : State := enterState (if s.powerWarn then .halted else .ready) s

/-- A flush burst is in flight. -/
def flushInFlight (s : State) : Bool :=
  match s.burst with
  | some b => b.work == .catalogueFlush || b.work == .billingFlush
  | none => false

/-- R24: an operation waiting for a billing flush ends CANCELLED, its response placed at once where a place is free. -/
def endWaitNow (p : Port) (s : State) : State :=
  let s := endWait p s
  match (s.port p).op with
  | .respond r _ _ => (placeResponse p r s).getD s
  | _ => s

/-- R23, R24: the flush is complete.  A flush burst in flight carries what is not yet on the medium, so it is waited for (log entry
20); no other burst is.  While bank 0 is OFFLINE the waiting operations are answered CANCELLED first, and then the state that
follows is entered with its notice (log entry 42). -/
def flushComplete (s : State) : Option State :=
  if s.device ≠ .flushing ∨ flushInFlight s = true then none
  else if bankOffline s 0 then
    if onlyWaiting .a s && onlyWaiting .b s then some (leaveFlushing (endWaitNow .b (endWaitNow .a s))) else none
  else if !s.billingPending && s.dirty.isEmpty && portIdle .a s && portIdle .b s then some (leaveFlushing s)
  else none

/-! ## Settling -/

/-- What the part does of its own accord, first things first: notices from marks, responses that have been made, records held outside
a queue, the moves to an operation's next request, the decision due at a burst's end, the operations in flight, the end of FLUSHING,
preparation's next burst, a grant at an idle store, and then new records from the input queues. -/
def actions : List (State → Option State) :=
  [placeMark .a, placeMark .b, placeMade .a, placeMade .b, enterHeld .a, enterHeld .b, advanceToRequest .a,
    advanceToRequest .b, arbitrateDue, advance .a, advance .b, flushComplete, prepStart, arbitrate, inbound]

/-- The next thing the part does of its own accord, if there is one. -/
def microStep (s : State) : Option State := if s.resetAsserted then none else actions.findSome? fun act => act s

/-- Run the part until nothing more happens of its own accord, at most `fuel` moves. -/
def settleFor : Nat → State → State
  | 0, s => s
  | fuel + 1, s =>
    match microStep s with
    | none => s
    | some s' => settleFor fuel s'

/-- More moves than one event can set off: at most 9 records wait on each port and at most 16 records can be placed on it, and
an operation makes at most two moves for each of an object's 384 tiles and 25 bands between two bursts. -/
def settleFuel : Nat := 20000

/-- What follows of its own accord from an event (R66, R150, R154). -/
def settle (s : State) : State := settleFor settleFuel s

end Sys2Proof.Machine
end

