-- ==== Sys2Proof/Machine/Commands.lean ====
section
/-!
DEFINITION. The meanings of the command rows.  A row is its command's COMMAND record reaching its port: where nothing stands before it
the port engine starts it at once (R150) and its checks and effect are those of its rule; otherwise it takes its place in the
input queue as COMMAND_RECORD_RECEIVED gives (R149), and starts when its turn comes.
-/

namespace Sys2Proof.Machine

open Sys2Proof

/-- The outcome of a step of this machine. -/
abbrev Outcome := Host.Outcome State Fault Refusal

/-- R148, R160: a COMMAND record: kind 1, its payload length, its command code and its tag. -/
def commandRecord (code : Nat) (tag : Tag) (payload : List Word) : InRecord :=
  ⟨BitVec.ofNat 32 (2 ^ 29 + payload.length % 512 * 2 ^ 20 + code * 2 ^ 8 + tag.toNat), payload⟩

/-- R150, R154: a command that arrives now is started at once: the part is out of RESET, nothing is in flight on the port,
nothing stands before it, and a place is free that no pending mark wants. -/
def canStart (p : Port) (s : State) : Bool :=
  !s.resetAsserted && (s.port p).op == .idle && (s.port p).restart == .none && (s.port p).inq.isEmpty &&
    (s.port p).held.isNone && (s.port p).hasPlace && (s.port p).noMarks

/-- R149: a record arrives whole.  With the queue full it is held outside it; with one already held, or while RESET is asserted
(R159), ready is withdrawn and it is not taken. -/
def receive (p : Port) (r : InRecord) (s : State) : State :=
  if s.resetAsserted || (s.port p).held.isSome then s
  else if (s.port p).inq.length < 8 then enterRecord p r s
  else s.modPort p fun e => { e with held := some r }

/-- A command row: started at once, or received into the input queue; then what follows of its own accord. -/
def submit (p : Port) (r : InRecord) (run : State → State) (s : State) : State :=
  if canStart p s then settle (run s) else settle (receive p r s)

/-- OPEN_EDITION (R31). -/
def execOpenEdition (p : Port) (tag : Tag) (key era resale : Word) (s : State) : Outcome :=
  .next (submit p (commandRecord 1 tag [key, era, resale]) (openEditionRun p tag key era resale) s)

/-- DEFINE_OBJECT (R32, R33). -/
def execDefineObject (p : Port) (tag : Tag) (key kind sequence width height polarity : Word) (s : State) : Outcome :=
  .next (submit p (commandRecord 2 tag [key, kind, sequence, width, height, polarity]) (defineObjectRun p tag key kind sequence width height polarity) s)

/-- CLOSE_EDITION (R34). -/
def execCloseEdition (p : Port) (tag : Tag) (key : Word) (s : State) : Outcome :=
  .next (submit p (commandRecord 3 tag [key]) (closeEditionRun p tag key) s)

/-- AMEND_EDITION (R35). -/
def execAmendEdition (p : Port) (tag : Tag) (key era resale : Word) (s : State) : Outcome :=
  .next (submit p (commandRecord 4 tag [key, era, resale]) (amendEditionRun p tag key era resale) s)

/-- WITHDRAW_EDITION (R36, R37). -/
def execWithdrawEdition (p : Port) (tag : Tag) (key : Word) (s : State) : Outcome :=
  .next (submit p (commandRecord 5 tag [key]) (withdrawEditionRun p tag key) s)

/-- PUT_WINDOW (R45, R46). -/
def execPutWindow (p : Port) (tag : Tag) (object x0 x1 y0 y1 axis mirror packing : Word) (s : State) : Outcome :=
  .next (submit p (commandRecord 6 tag [object, x0, x1, y0, y1, axis, mirror, packing]) (putWindowRun p tag object x0 x1 y0 y1 axis mirror packing) s)

/-- SERVICE_BANK (R7). -/
def execServiceBank (p : Port) (tag : Tag) (bank : Word) (s : State) : Outcome :=
  .next (submit p (commandRecord 7 tag [bank]) (serviceBankRun p tag bank) s)

/-- LOCK_EDITION (R73, R74). -/
def execLockEdition (p : Port) (tag : Tag) (key : Word) (s : State) : Outcome :=
  .next (submit p (commandRecord 8 tag [key]) (lockEditionRun p tag key) s)

/-- UNLOCK_EDITION (R79). -/
def execUnlockEdition (p : Port) (tag : Tag) (key : Word) (s : State) : Outcome :=
  .next (submit p (commandRecord 9 tag [key]) (unlockEditionRun p tag key) s)

/-- SCRUB_STROBE (R86). -/
def execScrubStrobe (p : Port) (tag : Tag) (s : State) : Outcome :=
  .next (submit p (commandRecord 10 tag []) (scrubStrobeRun p tag) s)

/-- SCRUB_BURST (R87). -/
def execScrubBurst (p : Port) (tag : Tag) (count : Word) (s : State) : Outcome :=
  .next (submit p (commandRecord 11 tag [count]) (scrubBurstRun p tag count) s)

/-- TAKE_DAMAGE (R98). -/
def execTakeDamage (p : Port) (tag : Tag) (s : State) : Outcome :=
  .next (submit p (commandRecord 12 tag []) (takeDamageRun p tag) s)

/-- What WRITE_CURVE does once its record is known (R151): a record without nine knots has not the command's length. -/
def writeCurveStart (p : Port) (tag : Tag) (set polarity : Word) (knots : List Word) (lift : Word) (s : State) : State :=
  if knots.length ≠ 9 then refuse p tag .badField s else writeCurveRun p tag set polarity knots lift s

/-- WRITE_CURVE (R114). -/
def execWriteCurve (p : Port) (tag : Tag) (set polarity : Word) (knots : List Word) (lift : Word) (s : State) : Outcome :=
  .next (submit p (commandRecord 13 tag ([set, polarity] ++ knots ++ [lift])) (writeCurveStart p tag set polarity knots lift) s)

/-- WRITE_FILL (R115). -/
def execWriteFill (p : Port) (tag : Tag) (set level : Word) (s : State) : Outcome :=
  .next (submit p (commandRecord 14 tag [set, level]) (writeFillRun p tag set level) s)

/-- ORDER_REPRINT (R139, R140). -/
def execOrderReprint (p : Port) (tag : Tag) (object sizeClass rightsClass quantity account : Word) (s : State) : Outcome :=
  .next (submit p (commandRecord 15 tag [object, sizeClass, rightsClass, quantity, account]) (orderReprintRun p tag object sizeClass rightsClass quantity account) s)

/-- TAKE_CHARGE (R146). -/
def execTakeCharge (p : Port) (tag : Tag) (s : State) : Outcome :=
  .next (submit p (commandRecord 16 tag []) (takeChargeRun p tag) s)

/-- OPEN_ACCOUNT (R134). -/
def execOpenAccount (p : Port) (tag : Tag) (account : Word) (s : State) : Outcome :=
  .next (submit p (commandRecord 17 tag [account]) (openAccountRun p tag account) s)

/-- SUSPEND_ACCOUNT (R134). -/
def execSuspendAccount (p : Port) (tag : Tag) (account : Word) (s : State) : Outcome :=
  .next (submit p (commandRecord 18 tag [account]) (suspendAccountRun p tag account) s)

/-- RESUME_ACCOUNT (R134). -/
def execResumeAccount (p : Port) (tag : Tag) (account : Word) (s : State) : Outcome :=
  .next (submit p (commandRecord 19 tag [account]) (resumeAccountRun p tag account) s)

/-- CLOSE_ACCOUNT (R134). -/
def execCloseAccount (p : Port) (tag : Tag) (account : Word) (s : State) : Outcome :=
  .next (submit p (commandRecord 20 tag [account]) (closeAccountRun p tag account) s)

/-- SET_DISCOUNT (R135). -/
def execSetDiscount (p : Port) (tag : Tag) (account discount : Word) (s : State) : Outcome :=
  .next (submit p (commandRecord 21 tag [account, discount]) (setDiscountRun p tag account discount) s)

/-- READ_TALLY (R136). -/
def execReadTally (p : Port) (tag : Tag) (account : Word) (s : State) : Outcome :=
  .next (submit p (commandRecord 22 tag [account]) (readTallyRun p tag account) s)

/-- CLEAR_TALLY (R136). -/
def execClearTally (p : Port) (tag : Tag) (account : Word) (s : State) : Outcome :=
  .next (submit p (commandRecord 23 tag [account]) (clearTallyRun p tag account) s)

/-- WRITE_SCHEDULE (R119, R120). -/
def execWriteSchedule (p : Port) (tag : Tag) (item index value : Word) (s : State) : Outcome :=
  .next (submit p (commandRecord 24 tag [item, index, value]) (writeScheduleRun p tag item index value) s)

/-- SET_YEAR (R122). -/
def execSetYear (p : Port) (tag : Tag) (year : Word) (s : State) : Outcome :=
  .next (submit p (commandRecord 25 tag [year]) (setYearRun p tag year) s)

/-- READ_STATUS (R41, R42). -/
def execReadStatus (p : Port) (tag : Tag) (s : State) : Outcome :=
  .next (submit p (commandRecord 26 tag []) (readStatusRun p tag) s)

/-- READ_EDITION (R38). -/
def execReadEdition (p : Port) (tag : Tag) (key : Word) (s : State) : Outcome :=
  .next (submit p (commandRecord 27 tag [key]) (readEditionRun p tag key) s)

/-- READ_OBJECT (R39). -/
def execReadObject (p : Port) (tag : Tag) (object selection : Word) (s : State) : Outcome :=
  .next (submit p (commandRecord 28 tag [object, selection]) (readObjectRun p tag object selection) s)

/-- LIST_EDITIONS (R40). -/
def execListEditions (p : Port) (tag : Tag) (start : Word) (s : State) : Outcome :=
  .next (submit p (commandRecord 29 tag [start]) (listEditionsRun p tag start) s)

/-- RENDER (R100, R101). -/
def execRender (p : Port) (tag : Tag) (object x0 x1 y0 y1 scale curve : Word) (s : State) : Outcome :=
  .next (submit p (commandRecord 30 tag [object, x0, x1, y0, y1, scale, curve]) (renderRun p tag object x0 x1 y0 y1 scale curve) s)

/-- READ_CURVE (R116). -/
def execReadCurve (p : Port) (tag : Tag) (set : Word) (s : State) : Outcome :=
  .next (submit p (commandRecord 31 tag [set]) (readCurveRun p tag set) s)

/-- READ_SCHEDULE (R121). -/
def execReadSchedule (p : Port) (tag : Tag) (s : State) : Outcome :=
  .next (submit p (commandRecord 32 tag []) (readScheduleRun p tag) s)

/-- UNKNOWN_COMMAND (R151 check 1): a record whose kind or code names no command. -/
def execUnknownCommand (p : Port) (header : Word) (payload : List Word) (s : State) : Outcome :=
  .next (submit p ⟨header, payload⟩ (runRecord p ⟨header, payload⟩) s)

end Sys2Proof.Machine
end

