-- ==== Sys2Proof/Machine/Links.lean ====
section
/-!
DEFINITION. The meanings of the events of the links: records received, the control records, stray records, and words taken by a
master.
-/

namespace Sys2Proof.Machine

open Sys2Proof

/-- R149, R159: a control record is acted on at once unless a record is held outside the queue or RESET is asserted.  Its
payload words, if it has any, are taken and discarded. -/
def takesControl (p : Port) (s : State) : Bool := !s.resetAsserted && (s.port p).held.isNone

/-- R149, R161: a record arrives, and the kind field of its header says what it is: a COMMAND or DATA record goes the way of the
input queue, a CANCEL or RESTART is acted on at once. -/
def takeInbound (p : Port) (r : InRecord) (s : State) : State :=
  match inboundKind r.header with
  | .command => receive p r s
  | .data => receive p r s
  | .cancel => if takesControl p s then takeCancel p s else s
  | .restart => if takesControl p s then takeRestart p s else s

/-- COMMAND_RECORD_RECEIVED (R149): the record enters the input queue; it starts when its turn comes (R150). -/
def execCommandRecordReceived (p : Port) (header : Word) (payload : List Word) (s : State) : Outcome :=
  .next (settle (takeInbound p ⟨header, payload⟩ s))

/-- DATA_RECORD_RECEIVED (R149): the record enters the input queue, or is discarded as malformed; a store takes its samples
(R54). -/
def execDataRecordReceived (p : Port) (header : Word) (payload : List Word) (s : State) : Outcome :=
  .next (settle (takeInbound p ⟨header, payload⟩ s))

/-- CANCEL (R156). -/
def execCancel (p : Port) (record : InRecord) (s : State) : Outcome :=
  .next (settle (takeInbound p record s))

/-- RESTART (R157). -/
def execRestart (p : Port) (record : InRecord) (s : State) : Outcome :=
  .next (settle (takeInbound p record s))

/-- R63: a well-formed data record that arrives now reaches the port engine at once, with no store in flight to take it. -/
def straysNow (p : Port) (s : State) : Bool :=
  !s.resetAsserted && (s.port p).restart == .none && (s.port p).inq.isEmpty && (s.port p).held.isNone &&
    !takesData (s.port p).op

/-- STRAY_RECORD (R63): a data record reaches the port engine with no store in flight and is discarded whole with a STRAY_DATA
notice.  Where records stand before it, it is received as any data record and strays when its turn comes. -/
def execStrayRecord (p : Port) (header : Word) (payload : List Word) (s : State) : Outcome :=
  .next (if straysNow p s then settle (raiseStray (headerLength header) p s) else settle (receive p ⟨header, payload⟩ s))

/-- R154: the head record leaves the response queue. -/
def dropHead (p : Port) (s : State) : State := s.modPort p fun e => { e with outq := e.outq.drop 1, sent := 0 }

/-- RECORD_TAKEN (R154): the master takes the last word of the head record, whose place is then free. -/
def execRecordTaken (p : Port) (s : State) : Outcome :=
  match s.resetAsserted, (s.port p).outq with
  | false, _ :: _ => .next (settle (dropHead p s))
  | _, _ => .fault .nothingPresented

/-- OUTBOUND_WORD_TAKEN (R154): the master takes a word of the head record that is not its last. -/
def execOutboundWordTaken (p : Port) (s : State) : Outcome :=
  match s.resetAsserted, (s.port p).outq with
  | false, r :: _ =>
    if (s.port p).sent + 1 < (outWords r).length then .next (s.modPort p fun e => { e with sent := e.sent + 1 })
    else .fault .nothingPresented
  | _, _ => .fault .nothingPresented

end Sys2Proof.Machine
end

