-- ==== Sys2Proof/Machine/Bursts.lean ====
section
/-!
DEFINITION. The meanings of the burst ends and of the burst timer.  Each end first stops the burst (R4), changes its bank (R5), gives
the slot its content where the burst was a write, and then lets the requester take the result as its own rule gives; what
follows of its own accord, the next grant decision among it (R66), comes after.
-/

namespace Sys2Proof.Machine

open Sys2Proof

/-! ## What every burst end does -/

/-- R4, R65, R66: the medium bus is idle and store busy clear; where the burst was granted, a grant decision is due. -/
def burstOver (s : State) : State :=
  { s with burst := none, arbiter := { s.arbiter with busy := false, deciding := s.arbiter.busy } }

/-- R91, R95: the end of a copy's write empties the upkeep tile buffer. -/
def emptyWritten (b : Burst) (s : State) : State :=
  match b.work with
  | .writeback _ _ => { s with upkeep := { s.upkeep with buffer := none } }
  | .relocationWrite _ _ => { s with upkeep := { s.upkeep with buffer := none } }
  | _ => s

/-- R2, R4: a write that completed gives its slot the whole content; one that ended MEDIUM_FAULT leaves it unknown. -/
def contentAfter (b : Burst) (done : Bool) (s : State) : State :=
  match b.content with
  | none => s
  | some c =>
    if done then { s with medium := mediumWrite s.medium b.slot c }
    else { s with medium := mediumWrite s.medium b.slot (.unknown s.freeCount), freeCount := s.freeCount + 1 }

/-- R4, R5: a retry that completed makes the bank SUSPECT; a burst that ended MEDIUM_FAULT leaves it OFFLINE. -/
def bankAfter (b : Burst) (done : Bool) (s : State) : State :=
  if done then (if b.retry then setBank (bankOf b.slot) .suspect s else s)
  else setBank (bankOf b.slot) .offline s

def ReadEnd.isDelivered : ReadEnd → Bool
  | .delivered _ => true
  | .mediumFault => false

def WriteEnd.isDone : WriteEnd → Bool
  | .done => true
  | .mediumFault => false

def ProbeEnd.isSuccess : ProbeEnd → Bool
  | .succeeded => true
  | .failed => false

/-- The end of a read burst: `take` is what its requester does with the delivery. -/
def endRead (b : Burst) (r : ReadEnd) (take : Delivery → State → State) (s : State) : State :=
  settle (spendRead r (take (deliver s b.slot r) (bankAfter b (ReadEnd.isDelivered r) (burstOver s))))

/-- The end of a write burst. -/
def endWrite (b : Burst) (done : Bool) (take : State → State) (s : State) : State :=
  settle (take (bankAfter b done (contentAfter b done (emptyWritten b (burstOver s)))))

/-- The end of a probe burst, which changes its bank by its outcome alone (R7). -/
def endProbe (take : State → State) (s : State) : State := settle (take (burstOver s))

/-! ## The burst ends -/

/-- PREP_PROBE_COMPLETE (R21 step 2). -/
def execPrepProbeComplete (ending : ProbeEnd) (s : State) : Outcome :=
  match s.burst with
  | some ⟨.prepProbe, slot, _, _, _⟩ =>
    .next (endProbe (prepProbeTaken (bankOf slot) (ProbeEnd.isSuccess ending)) s)
  | _ => .fault .noSuchBurst

/-- PREP_MARKER_READ_COMPLETE (R21 step 3). -/
def execPrepMarkerReadComplete (ending : ReadEnd) (s : State) : Outcome :=
  match s.burst with
  | some ⟨.prepMarker, slot, retry, timer, content⟩ =>
    .next (endRead ⟨.prepMarker, slot, retry, timer, content⟩ ending (fun _ => prepMarkerTaken ending) s)
  | _ => .fault .noSuchBurst

/-- FORMAT_WRITE_COMPLETE (R21 step 3). -/
def execFormatWriteComplete (ending : WriteEnd) (s : State) : Outcome :=
  match s.burst with
  | some ⟨.prepFormat, slot, retry, timer, content⟩ =>
    .next (endWrite ⟨.prepFormat, slot, retry, timer, content⟩ (WriteEnd.isDone ending)
      (prepFormatTaken slot (WriteEnd.isDone ending)) s)
  | _ => .fault .noSuchBurst

/-- LOAD_READ_COMPLETE (R21 step 3). -/
def execLoadReadComplete (ending : ReadEnd) (s : State) : Outcome :=
  match s.burst with
  | some ⟨.prepLoad, slot, retry, timer, content⟩ =>
    .next (endRead ⟨.prepLoad, slot, retry, timer, content⟩ ending (fun _ => prepLoadTaken slot ending) s)
  | _ => .fault .noSuchBurst

/-- READ_MERGE_COMPLETE (R52, R53). -/
def execReadMergeComplete (ending : ReadEnd) (s : State) : Outcome :=
  match s.burst with
  | some ⟨.storeRead tile, slot, retry, timer, content⟩ =>
    .next (endRead ⟨.storeRead tile, slot, retry, timer, content⟩ ending (storeReadTaken tile slot) s)
  | _ => .fault .noSuchBurst

/-- STORE_WRITE_COMPLETE (R55 to R57). -/
def execStoreWriteComplete (ending : WriteEnd) (s : State) : Outcome :=
  match s.burst with
  | some ⟨.storeWrite tile, slot, retry, timer, content⟩ =>
    .next (endWrite ⟨.storeWrite tile, slot, retry, timer, content⟩ (WriteEnd.isDone ending)
      (storeWriteTaken tile slot (WriteEnd.isDone ending)) s)
  | _ => .fault .noSuchBurst

/-- RENDER_READ_COMPLETE (R105). -/
def execRenderReadComplete (port : Port) (ending : ReadEnd) (s : State) : Outcome :=
  match s.burst with
  | some ⟨.renderRead p, slot, retry, timer, content⟩ =>
    if p = port then
      .next (endRead ⟨.renderRead p, slot, retry, timer, content⟩ ending (renderReadTaken p slot) s)
    else .fault .noSuchBurst
  | _ => .fault .noSuchBurst

/-- PROBE_COMPLETE (R7). -/
def execProbeComplete (ending : ProbeEnd) (s : State) : Outcome :=
  match s.burst with
  | some ⟨.probe, slot, _, _, _⟩ => .next (endProbe (probeTaken (bankOf slot) (ProbeEnd.isSuccess ending)) s)
  | _ => .fault .noSuchBurst

/-- SCRUB_VISIT_COMPLETE (R88 to R90). -/
def execScrubVisitComplete (ending : ReadEnd) (s : State) : Outcome :=
  match s.burst with
  | some ⟨.scrub generation noCopy, slot, retry, timer, content⟩ =>
    .next (endRead ⟨.scrub generation noCopy, slot, retry, timer, content⟩ ending (scrubTaken slot generation noCopy) s)
  | _ => .fault .noSuchBurst

/-- WRITEBACK_COMPLETE (R91). -/
def execWritebackComplete (ending : WriteEnd) (s : State) : Outcome :=
  match s.burst with
  | some ⟨.writeback kept dropped, slot, retry, timer, content⟩ =>
    .next (endWrite ⟨.writeback kept dropped, slot, retry, timer, content⟩ (WriteEnd.isDone ending)
      (writebackTaken slot kept dropped (WriteEnd.isDone ending)) s)
  | _ => .fault .noSuchBurst

/-- RELOCATION_READ_COMPLETE (R94). -/
def execRelocationReadComplete (ending : ReadEnd) (s : State) : Outcome :=
  match s.burst with
  | some ⟨.relocationRead target generation dropped noCopy, slot, retry, timer, content⟩ =>
    .next (endRead ⟨.relocationRead target generation dropped noCopy, slot, retry, timer, content⟩ ending
      (relocationReadTaken slot target generation dropped noCopy) s)
  | _ => .fault .noSuchBurst

/-- RELOCATION_WRITE_COMPLETE (R95). -/
def execRelocationWriteComplete (ending : WriteEnd) (s : State) : Outcome :=
  match s.burst with
  | some ⟨.relocationWrite old dropped, slot, retry, timer, content⟩ =>
    .next (endWrite ⟨.relocationWrite old dropped, slot, retry, timer, content⟩ (WriteEnd.isDone ending)
      (relocationWriteTaken old slot dropped (WriteEnd.isDone ending)) s)
  | _ => .fault .noSuchBurst

/-- CATALOGUE_FLUSH_COMPLETE (R15). -/
def execCatalogueFlushComplete (ending : WriteEnd) (s : State) : Outcome :=
  match s.burst with
  | some ⟨.catalogueFlush, slot, retry, timer, content⟩ =>
    .next (endWrite ⟨.catalogueFlush, slot, retry, timer, content⟩ (WriteEnd.isDone ending)
      (catalogueFlushTaken slot (WriteEnd.isDone ending)) s)
  | _ => .fault .noSuchBurst

/-- BILLING_FLUSH_COMPLETE (R17). -/
def execBillingFlushComplete (ending : WriteEnd) (s : State) : Outcome :=
  match s.burst with
  | some ⟨.billingFlush, slot, retry, timer, content⟩ =>
    .next (endWrite ⟨.billingFlush, slot, retry, timer, content⟩ (WriteEnd.isDone ending)
      (billingFlushTaken (WriteEnd.isDone ending)) s)
  | _ => .fault .noSuchBurst

/-- R25: a carried write has ended; its result is discarded, and the slot holds what the write left. -/
def endCarried (b : Burst) (done : Bool) (s : State) : State := settle (contentAfter b done (burstOver s))

/-- CARRIED_WRITE_BURST_END (R25). -/
def execCarriedWriteBurstEnd (ending : WriteEnd) (s : State) : Outcome :=
  match s.burst with
  | some ⟨.carried suspect, slot, retry, timer, content⟩ =>
    .next (endCarried ⟨.carried suspect, slot, retry, timer, content⟩ (WriteEnd.isDone ending) s)
  | _ => .fault .noSuchBurst

/-! ## The burst timer -/

/-- R4, R7: a burst is retried after its first timeout when its bank is ONLINE; a probe burst in any bank state; a carried
write when its bank was not SUSPECT as RESET was asserted (R25). -/
def retries (b : Burst) (s : State) : Bool :=
  !b.retry &&
    match b.work with
    | .prepProbe => true
    | .probe => true
    | .carried suspect => !suspect
    | _ => s.banks.getD (bankOf b.slot) .online == .online

/-- R4: the same burst starts again from its first word with a fresh timer. -/
def retryBurst (b : Burst) (s : State) : State := { s with burst := some { b with retry := true, timer := 0 } }

/-- R4, R7: the burst has timed out for good: a probe has failed, any other burst ends MEDIUM_FAULT. -/
def failBurst (b : Burst) (s : State) : State :=
  match b.work with
  | .prepProbe => endProbe (prepProbeTaken (bankOf b.slot) false) s
  | .prepMarker => endRead b .mediumFault (fun _ => prepMarkerTaken .mediumFault) s
  | .prepFormat => endWrite b false (prepFormatTaken b.slot false) s
  | .prepLoad => endRead b .mediumFault (fun _ => prepLoadTaken b.slot .mediumFault) s
  | .storeRead tile => endRead b .mediumFault (storeReadTaken tile b.slot) s
  | .storeWrite tile => endWrite b false (storeWriteTaken tile b.slot false) s
  | .renderRead p => endRead b .mediumFault (renderReadTaken p b.slot) s
  | .probe => endProbe (probeTaken (bankOf b.slot) false) s
  | .scrub generation noCopy => endRead b .mediumFault (scrubTaken b.slot generation noCopy) s
  | .writeback kept dropped => endWrite b false (writebackTaken b.slot kept dropped false) s
  | .relocationRead target generation dropped noCopy =>
    endRead b .mediumFault (relocationReadTaken b.slot target generation dropped noCopy) s
  | .relocationWrite old dropped => endWrite b false (relocationWriteTaken old b.slot dropped false) s
  | .catalogueFlush => endWrite b false (catalogueFlushTaken b.slot false) s
  | .billingFlush => endWrite b false (billingFlushTaken false) s
  | .carried _ => endCarried b false s

/-- BURST_TIMEOUT (R4). -/
def execBurstTimeout (s : State) : Outcome :=
  match s.burst with
  | some b => .next (if retries b s then retryBurst b s else failBurst b s)
  | none => .fault .noSuchBurst

end Sys2Proof.Machine
end

