-- ==== Sys2Proof/Machine/Device.lean ====
section
/-!
DEFINITION. The meanings of the pins RESET, POWER_WARN and STRAP_CLK, and of the scrub interval timer.
-/

namespace Sys2Proof.Machine

open Sys2Proof

/-- RESET_ASSERTED (R25).  RESET already asserted stays so. -/
def execResetAsserted (s : State) : Outcome := .next (if s.resetAsserted then s else resetState s)

/-- R20, R21, R165: RESET is released: the part is PREPARING and waits for the sixteen bits of its strap word. -/
def releaseReset (s : State) : State := { s with resetAsserted := false, device := .preparing, prep := .strap [] }

/-- RESET_RELEASED (R21).  RESET already released stays so. -/
def execResetReleased (s : State) : Outcome := .next (if s.resetAsserted then settle (releaseReset s) else s)

/-- R165: one edge of STRAP_CLK: the bit is taken; the sixteenth latches the word.  An edge while RESET is asserted or after the
word is latched is not taken. -/
def takeStrapBit (bit : Bool) (s : State) : State :=
  match s.resetAsserted, s.prep with
  | false, .strap bits =>
    if bits.length < 15 then { s with prep := .strap (bits ++ [bit]) } else settle (latchStrap (bits ++ [bit]) s)
  | _, _ => s

/-- STRAP_BIT_TAKEN (R165). -/
def execStrapBitTaken (bit : Bool) (s : State) : Outcome := .next (takeStrapBit bit s)

/-- LATCH_STRAP_WORD (R19, R165): the sixteenth bit is taken and the word latched. -/
def execLatchStrapWord (bit : Bool) (s : State) : Outcome :=
  match s.resetAsserted, s.prep with
  | false, .strap bits =>
    if bits.length < 15 then .fault .strapIncomplete else .next (settle (latchStrap (bits ++ [bit]) s))
  | _, _ => .next s

/-- POWER_WARN_ASSERTED (R20, R23): READY enters FLUSHING; in PREPARING it is acted on when preparation ends; in the other states
it decides what follows. -/
def execPowerWarnAsserted (s : State) : Outcome :=
  .next (if s.powerWarn then s
    else
      let s := { s with powerWarn := true }
      if s.resetAsserted then s
      else match s.device with
        | .ready => settle (enterFlushing s)
        | .preparing => s
        | .flushing => s
        | .halted => s
        | .faulted => s)

/-- POWER_WARN_RELEASED (R20, R24): HALTED returns to READY; in FLUSHING it decides the state that follows. -/
def execPowerWarnReleased (s : State) : Outcome :=
  .next (if !s.powerWarn then s
    else
      let s := { s with powerWarn := false }
      if s.resetAsserted then s
      else match s.device with
        | .halted => settle (enterState .ready s)
        | .preparing => s
        | .ready => s
        | .flushing => s
        | .faulted => s)

/-- SCRUB_TIMER_EXPIRY (R85): the due flag is set and the timer starts again from zero. -/
def execScrubTimerExpiry (s : State) : Outcome :=
  if s.upkeep.timerRunning then .next (settle { s with upkeep := { s.upkeep with due := true, timer := 0 } })
  else .fault .timerStopped

end Sys2Proof.Machine
end

