-- ==== Sys2Proof/Machine/Signals.lean ====
section
/-!
DEFINITION. The output pins as functions of the state (R158, section 11.6).
-/

namespace Sys2Proof.Machine

open Sys2Proof

/-- R158: the damage list and the journal are in use. -/
def tablesInUse (s : State) : Bool := s.device != .preparing && s.device != .faulted

/-- ATTN_A (R158). -/
def attnA (s : State) : Bool :=
  !s.resetAsserted && (!s.portA.outq.isEmpty || (tablesInUse s && !s.damage.isEmpty))

/-- R146: the journal's oldest entry is FINAL or VOID. -/
def oldestReady (s : State) : Bool :=
  match s.journal with
  | [] => false
  | e :: _ => entryReady e

/-- ATTN_B (R158). -/
def attnB (s : State) : Bool := !s.resetAsserted && (!s.portB.outq.isEmpty || (tablesInUse s && oldestReady s))

/-- A_IN_READY and B_IN_READY (R149, R159). -/
def inReady (p : Port) (s : State) : Bool := !s.resetAsserted && (s.port p).held.isNone

/-- A_OUT_VALID and B_OUT_VALID with A_OUT_DATA and B_OUT_DATA (R154): the word presented, if one is. -/
def outWord (p : Port) (s : State) : Option Word :=
  if s.resetAsserted then none
  else match (s.port p).outq with
    | [] => none
    | r :: _ => (outWords r)[(s.port p).sent]?

/-- MB_BANK and MB_SLOT: the bank and the slot within it of the burst in flight. -/
def busAddress (s : State) : Option (Nat × Nat) := s.burst.map fun b => (bankOf b.slot, b.slot % 16384)

/-- MB_WRITE: the direction of the burst in flight. -/
def busWrites (s : State) : Bool :=
  match s.burst with
  | some b => b.content.isSome
  | none => false

end Sys2Proof.Machine
end

