-- ==== Sys2Proof/Machine/Dispatch.lean ====
section
/-!
DEFINITION. One arm for each row of the table: the direct call of its meaning.
-/

namespace Sys2Proof.Machine

open Sys2Proof

def exec (i : Instr) (s : State) : Host.Outcome State Fault Refusal :=
  match i with
  | .openEdition port tag key era resale => Sys2Proof.Machine.execOpenEdition port tag key era resale s
  | .defineObject port tag key kind sequence width height polarity => Sys2Proof.Machine.execDefineObject port tag key kind sequence width height polarity s
  | .closeEdition port tag key => Sys2Proof.Machine.execCloseEdition port tag key s
  | .amendEdition port tag key era resale => Sys2Proof.Machine.execAmendEdition port tag key era resale s
  | .withdrawEdition port tag key => Sys2Proof.Machine.execWithdrawEdition port tag key s
  | .putWindow port tag object x0 x1 y0 y1 axis mirror packing => Sys2Proof.Machine.execPutWindow port tag object x0 x1 y0 y1 axis mirror packing s
  | .serviceBank port tag bank => Sys2Proof.Machine.execServiceBank port tag bank s
  | .lockEdition port tag key => Sys2Proof.Machine.execLockEdition port tag key s
  | .unlockEdition port tag key => Sys2Proof.Machine.execUnlockEdition port tag key s
  | .scrubStrobe port tag => Sys2Proof.Machine.execScrubStrobe port tag s
  | .scrubBurst port tag count => Sys2Proof.Machine.execScrubBurst port tag count s
  | .takeDamage port tag => Sys2Proof.Machine.execTakeDamage port tag s
  | .writeCurve port tag set polarity knots lift => Sys2Proof.Machine.execWriteCurve port tag set polarity knots lift s
  | .writeFill port tag set level => Sys2Proof.Machine.execWriteFill port tag set level s
  | .orderReprint port tag object sizeClass rightsClass quantity account => Sys2Proof.Machine.execOrderReprint port tag object sizeClass rightsClass quantity account s
  | .takeCharge port tag => Sys2Proof.Machine.execTakeCharge port tag s
  | .openAccount port tag account => Sys2Proof.Machine.execOpenAccount port tag account s
  | .suspendAccount port tag account => Sys2Proof.Machine.execSuspendAccount port tag account s
  | .resumeAccount port tag account => Sys2Proof.Machine.execResumeAccount port tag account s
  | .closeAccount port tag account => Sys2Proof.Machine.execCloseAccount port tag account s
  | .setDiscount port tag account discount => Sys2Proof.Machine.execSetDiscount port tag account discount s
  | .readTally port tag account => Sys2Proof.Machine.execReadTally port tag account s
  | .clearTally port tag account => Sys2Proof.Machine.execClearTally port tag account s
  | .writeSchedule port tag item index value => Sys2Proof.Machine.execWriteSchedule port tag item index value s
  | .setYear port tag year => Sys2Proof.Machine.execSetYear port tag year s
  | .readStatus port tag => Sys2Proof.Machine.execReadStatus port tag s
  | .readEdition port tag key => Sys2Proof.Machine.execReadEdition port tag key s
  | .readObject port tag object selection => Sys2Proof.Machine.execReadObject port tag object selection s
  | .listEditions port tag start => Sys2Proof.Machine.execListEditions port tag start s
  | .render port tag object x0 x1 y0 y1 scale curve => Sys2Proof.Machine.execRender port tag object x0 x1 y0 y1 scale curve s
  | .readCurve port tag set => Sys2Proof.Machine.execReadCurve port tag set s
  | .readSchedule port tag => Sys2Proof.Machine.execReadSchedule port tag s
  | .unknownCommand port header payload => Sys2Proof.Machine.execUnknownCommand port header payload s
  | .commandRecordReceived port header payload => Sys2Proof.Machine.execCommandRecordReceived port header payload s
  | .dataRecordReceived port header payload => Sys2Proof.Machine.execDataRecordReceived port header payload s
  | .cancel port record => Sys2Proof.Machine.execCancel port record s
  | .restart port record => Sys2Proof.Machine.execRestart port record s
  | .strayRecord port header payload => Sys2Proof.Machine.execStrayRecord port header payload s
  | .recordTaken port => Sys2Proof.Machine.execRecordTaken port s
  | .resetAsserted => Sys2Proof.Machine.execResetAsserted s
  | .resetReleased => Sys2Proof.Machine.execResetReleased s
  | .latchStrapWord bit => Sys2Proof.Machine.execLatchStrapWord bit s
  | .prepProbeComplete ending => Sys2Proof.Machine.execPrepProbeComplete ending s
  | .prepMarkerReadComplete ending => Sys2Proof.Machine.execPrepMarkerReadComplete ending s
  | .formatWriteComplete ending => Sys2Proof.Machine.execFormatWriteComplete ending s
  | .loadReadComplete ending => Sys2Proof.Machine.execLoadReadComplete ending s
  | .powerWarnAsserted => Sys2Proof.Machine.execPowerWarnAsserted s
  | .powerWarnReleased => Sys2Proof.Machine.execPowerWarnReleased s
  | .burstTimeout => Sys2Proof.Machine.execBurstTimeout s
  | .readMergeComplete ending => Sys2Proof.Machine.execReadMergeComplete ending s
  | .storeWriteComplete ending => Sys2Proof.Machine.execStoreWriteComplete ending s
  | .renderReadComplete port ending => Sys2Proof.Machine.execRenderReadComplete port ending s
  | .probeComplete ending => Sys2Proof.Machine.execProbeComplete ending s
  | .scrubTimerExpiry => Sys2Proof.Machine.execScrubTimerExpiry s
  | .scrubVisitComplete ending => Sys2Proof.Machine.execScrubVisitComplete ending s
  | .writebackComplete ending => Sys2Proof.Machine.execWritebackComplete ending s
  | .relocationReadComplete ending => Sys2Proof.Machine.execRelocationReadComplete ending s
  | .relocationWriteComplete ending => Sys2Proof.Machine.execRelocationWriteComplete ending s
  | .catalogueFlushComplete ending => Sys2Proof.Machine.execCatalogueFlushComplete ending s
  | .billingFlushComplete ending => Sys2Proof.Machine.execBillingFlushComplete ending s
  | .carriedWriteBurstEnd ending => Sys2Proof.Machine.execCarriedWriteBurstEnd ending s
  | .outboundWordTaken port => Sys2Proof.Machine.execOutboundWordTaken port s
  | .strapBitTaken bit => Sys2Proof.Machine.execStrapBitTaken bit s

end Sys2Proof.Machine
end

