-- ==== Sys2Proof/Machine/Step.lean ====
section
/-!
DEFINITION. One step of the part: the command or event at the front of the queue, or, with none waiting, a microsecond that passes.
-/

namespace Sys2Proof.Machine

open Sys2Proof

/-- R4: the burst timer runs while a burst is in flight; it is held at 500 µs, where BURST_TIMEOUT stands for its expiry. -/
def tickBurst (b : Burst) : Burst := { b with timer := min 500 (b.timer + 1) }

/-- R84, R85: the interval timer runs while it is started; it is held at the cadence, where SCRUB_TIMER_EXPIRY stands for its
expiry. -/
def tickUpkeep (strap : BitVec 16) (u : Upkeep) : Upkeep :=
  if u.timerRunning then { u with timer := min (cadence strap) (u.timer + 1) } else u

/-- A microsecond passes with nothing commanded.  DESIGN CHOICE (log entry 3): an empty queue is time passing. -/
def tick (s : State) : State :=
  { s with burst := s.burst.map tickBurst, upkeep := tickUpkeep s.strap s.upkeep }

/-- Take the command at the front of the queue and carry it out. -/
def step (s : State) : Host.Outcome State Fault Refusal :=
  match s.pending with
  | [] => .next (tick s)
  | c :: rest => exec c { s with pending := rest }

/-- The state with the command a table word spells put at the front of its queue; unchanged where the word spells none. -/
def State.withFetchWord (s : State) (nbits w : Nat) : State :=
  match decodeTableWord nbits w with
  | some c => { s with pending := c :: s.pending }
  | none => s

end Sys2Proof.Machine
end

