-- ==== Sys2Proof/Safety.lean ====
section
/-!
DEFINITION. What counts as a sound state of the part, and the words in which the statements about it are written.
-/

namespace Sys2Proof.Machine

open Sys2Proof

/-- A command on this port starts at once and passes the device state check: the part is READY and nothing stands before it. -/
abbrev Accepts (p : Port) (s : State) : Prop := canStart p s = true ∧ s.device = .ready

/-- A DONE response as a record of a response queue. -/
def doneRecord (tag : Tag) (notes : List Note) (results : List Word) : OutRecord := .response (doneResponse tag notes results)

/-- A refusal as a record of a response queue. -/
def refusedRecord (tag : Tag) (cause : Cause) (extra : List Word) : OutRecord :=
  .response ⟨tag, .refused, some cause, [], extra⟩

/-- The bounds of a port engine: 8 records in the input queue (R149), 16 in the response queue (R154), 1 to 255 in the
STRAY_DATA mark (R155). -/
def PortBounded (e : PortEngine) : Prop :=
  e.inq.length ≤ 8 ∧ e.outq.length ≤ 16 ∧ ∀ m, e.strayMark = some m → 1 ≤ m.count ∧ m.count ≤ 255

/-- The bounds the spec gives the tables, queues and counters of the part, whatever step it takes: four bank states (R41), 8 lock
entries (R72), the ports' queues, 128 damage list entries (R97), 16 relocation list entries (R93), the run count (R65), the
burst count (R82) and the burst timer (R4). -/
def Bounded (s : State) : Prop :=
  s.banks.length = 4 ∧ s.locks.length = 8 ∧ PortBounded s.portA ∧ PortBounded s.portB ∧ s.damage.length ≤ 128 ∧
    s.relocations.length ≤ 16 ∧ s.arbiter.runCount ≤ 4 ∧ s.upkeep.burstCount ≤ 128 ∧
    ∀ b, s.burst = some b → b.timer ≤ 500

/-- The law of the lock table (R72, R74): while an entry is HELD, Port B has no operation in flight on its edition. -/
def LockLaw (s : State) : Prop :=
  ∀ e : LockEntry, some e ∈ s.locks → e.state = .held → s.portB.op.edition ≠ some e.key

/-- The medium holds its canonical form: slots rising, and no slot listed with what an unlisted one reads as. -/
abbrev MediumCanonical (s : State) : Prop := mediumWf s.medium = true

/-- The rows at which a write burst on the medium bus can end (R2, R4). -/
def Instr.endsWrite : Instr → Bool
  | .formatWriteComplete _ => true
  | .storeWriteComplete _ => true
  | .writebackComplete _ => true
  | .relocationWriteComplete _ => true
  | .catalogueFlushComplete _ => true
  | .billingFlushComplete _ => true
  | .carriedWriteBurstEnd _ => true
  | .burstTimeout => true
  | _ => false

/-- The rows that are words or records sent by a master: the commands and the inbound records. -/
def Instr.inbound : Instr → Bool
  | .openEdition .. | .defineObject .. | .closeEdition .. | .amendEdition .. | .withdrawEdition .. | .putWindow ..
  | .serviceBank .. | .lockEdition .. | .unlockEdition .. | .scrubStrobe .. | .scrubBurst .. | .takeDamage ..
  | .writeCurve .. | .writeFill .. | .orderReprint .. | .takeCharge .. | .openAccount .. | .suspendAccount ..
  | .resumeAccount .. | .closeAccount .. | .setDiscount .. | .readTally .. | .clearTally .. | .writeSchedule ..
  | .setYear .. | .readStatus .. | .readEdition .. | .readObject .. | .listEditions .. | .render .. | .readCurve ..
  | .readSchedule .. | .unknownCommand .. | .commandRecordReceived .. | .dataRecordReceived .. | .cancel .. | .restart ..
  | .strayRecord .. => true
  | _ => false

/-- The commands that R151's device state and port checks judge in the same way, with the port they open on, the port they arrived
on and their tag: every command but READ_STATUS, which passes in every state. -/
def Instr.judged : Instr → Option (OpenTo × Port × Tag)
  | .openEdition p t .. | .defineObject p t .. | .closeEdition p t .. | .amendEdition p t .. | .withdrawEdition p t ..
  | .putWindow p t .. | .serviceBank p t .. | .lockEdition p t .. | .unlockEdition p t .. | .scrubStrobe p t
  | .scrubBurst p t .. | .takeDamage p t | .writeFill p t .. => some (.onlyA, p, t)
  | .writeCurve p t _ _ knots _ => if knots.length = 9 then some (.onlyA, p, t) else none
  | .orderReprint p t .. | .takeCharge p t | .openAccount p t .. | .suspendAccount p t .. | .resumeAccount p t ..
  | .closeAccount p t .. | .setDiscount p t .. | .readTally p t .. | .clearTally p t .. | .writeSchedule p t ..
  | .setYear p t .. => some (.onlyB, p, t)
  | .readEdition p t .. | .readObject p t .. | .listEditions p t .. | .render p t .. | .readCurve p t ..
  | .readSchedule p t => some (.both, p, t)
  | _ => none

/-- A command open to Port B that makes its port check before its device state check (R151). -/
def Instr.portFirst : Instr → Bool
  | .orderReprint .. => true
  | _ => false

/-- R22, R8: every tile position of every object names an ASSIGNED slot that names the object and the position. -/
def TilesOwned (s : State) : Prop :=
  ∀ o ∈ s.objects, ∀ (i : Nat) (m : MapEntry), o.tileMap[i]? = some m →
    (s.slot m.slot).state = .assigned ∧ (s.slot m.slot).owner = .tile o.number i ∧ (s.slot m.slot).written = m.written

/-- R10, R94: a slot taken from the pool for the relocation of slot `old` belongs to that relocation. -/
def TargetOf (s : State) (old target : Nat) : Prop :=
  512 ≤ target ∧ (s.slot target).state = .assigned ∧ (s.slot target).owner = .relocation old

/-- The laws of the slots once reconcile has run (R8, R10, R26, R94): tile positions own their slots, which are tile slots; the pool
holds FREE tile slots, none twice; an edition's object list names each of its objects once; the target of a relocation under way
belongs to it; and a store's write in flight goes to the slot that the tile map names. -/
structure SlotLaw (s : State) : Prop where
  owned : TilesOwned s
  tileSlots : ∀ o ∈ s.objects, ∀ m ∈ o.tileMap, 512 ≤ m.slot
  poolOnce : s.pool.Nodup
  poolFree : ∀ n ∈ s.pool, 512 ≤ n ∧ (s.slot n).state = .free
  listedOnce : ∀ e ∈ s.editions, (e.objects.map (·.number)).Nodup
  listed : ∀ e ∈ s.editions, ∀ r ∈ e.objects, ∃ o, s.findObject r.number = some o ∧ o.key = e.key
  copyTarget : ∀ c target, s.upkeep.buffer = some c → c.purpose = .relocation target → TargetOf s c.slot target
  readTarget : ∀ b target g dropped noCopy, s.burst = some b → b.work = .relocationRead target g dropped noCopy →
    s.upkeep.buffer = none ∧ TargetOf s b.slot target
  writeTarget : ∀ b old dropped, s.burst = some b → b.work = .relocationWrite old dropped →
    TargetOf s old b.slot ∧ ∀ c, s.upkeep.buffer = some c → c.purpose = .relocation b.slot
  storeSlot : ∀ b i, s.burst = some b → b.work = .storeWrite i →
    ∃ c, s.portA.op = .store c ∧ tileSlot s c.object i = b.slot

/-- What a burst of preparation is for (R21). -/
def BurstWork.preparing : BurstWork → Bool
  | .prepProbe => true
  | .prepMarker => true
  | .prepFormat => true
  | .prepLoad => true
  | _ => false

/-- The slots are sound: the object table and the slot table keep their form, the laws of the slots hold in READY, FLUSHING and HALTED,
and what can lead into those states is as it leaves RESET: no copy in the upkeep tile buffer in PREPARING, the bursts of preparation in
PREPARING only, and nothing but a carried write in flight while RESET is asserted.  Port B has no store. -/
structure SlotsSound (s : State) : Prop where
  numbersRise : (s.objects.map (·.number)).Pairwise (· < ·)
  tableForm : Assoc.wf slotDefault s.slots = true
  noStoreOnB : ∀ c, s.portB.op ≠ .store c
  preparingBuffer : s.device = .preparing → s.upkeep.buffer = none
  preparingBurst : ∀ b, s.burst = some b → BurstWork.preparing b.work = true → s.device = .preparing
  inReset : s.resetAsserted = true → s.device = .preparing ∧ ∀ b, s.burst = some b → ∃ suspect, b.work = .carried suspect
  law : s.device ≠ .preparing → s.device ≠ .faulted → SlotLaw s

end Sys2Proof.Machine
end

