-- ==== Sys2Proof/Certificates/Slice0/Obligations.lean ====
section
/-!
DEFINITION. The statements for the provers.  In each, `settle` is what the part does of its own accord after the change that the
statement names (the next grant, the next record of a queue, a notice or a response that finds a place); what it can never touch
is a statement of its own.
-/

open Sys2Proof Sys2Proof.Machine

/-! ## The machine -/

/-- A step carries out the command at the front of the queue, on the state with the queue's rest.  With nothing commanded a
microsecond passes: the burst timer of R4 and the interval timer of R85 advance where they run, and nothing else changes.
(That an idle step is a microsecond is the model's choice, log entry 3.) -/
def Obligations.StepRunsFrontCommand : Prop :=
  (∀ (c : Instr) (s : State), step { s with pending := c :: s.pending } = exec c s) ∧
  ∀ s : State, s.pending = [] →
    ∃ t, step s = .next t ∧ t = { s with burst := t.burst, upkeep := { s.upkeep with timer := t.upkeep.timer } } ∧
      (s.burst = none → t.burst = none) ∧
      (∀ b, s.burst = some b → t.burst = some { b with timer := min 500 (b.timer + 1) }) ∧
      t.upkeep.timer =
        if s.upkeep.timerRunning then min (cadence s.strap) (s.upkeep.timer + 1) else s.upkeep.timer

/-- What the part does of its own accord stops where there is nothing more to do; and with no record waiting in an input queue
it never changes the medium, the bank states, the objects, the damage list, the curve sets, the fee schedule, the years, the
sequence number, the strap word or the pins. -/
def Obligations.SettlingFrame : Prop :=
  (∀ s : State, microStep s = none → settle s = s) ∧
    ∀ s : State, s.portA.inq = [] → s.portB.inq = [] → s.portA.held = none → s.portB.held = none →
      let t := settle s
      t.pending = s.pending ∧ t.resetAsserted = s.resetAsserted ∧ t.powerWarn = s.powerWarn ∧ t.prep = s.prep ∧
        t.strap = s.strap ∧ t.medium = s.medium ∧ t.banks = s.banks ∧ t.objects = s.objects ∧ t.damage = s.damage ∧
        t.overflow = s.overflow ∧ t.curves = s.curves ∧ t.schedule = s.schedule ∧ t.year = s.year ∧
        t.sequence = s.sequence ∧ t.billingYear = s.billingYear

/-- Every step keeps the bounds of the tables, queues and counters. -/
def Obligations.StepKeepsBounds : Prop :=
  ∀ s t : State, Bounded s → step s = .next t → Bounded t

/-- Every step keeps the law of the lock table: no HELD entry on an edition that Port B has an operation in flight on. -/
def Obligations.StepKeepsLockLaw : Prop :=
  ∀ s t : State, LockLaw s → step s = .next t → LockLaw t

/-- Every step keeps the canonical form of the medium, so that equal media are equal data.
(The form is the model's own, log entry 11.) -/
def Obligations.StepKeepsMediumCanonical : Prop :=
  ∀ s t : State, MediumCanonical s → step s = .next t → MediumCanonical t

/-- The invariants hold right after RESET, and so do the values R65 and R82 give for it. -/
def Obligations.ResetStateIsSound : Prop :=
  Bounded State.reset ∧ LockLaw State.reset ∧ MediumCanonical State.reset ∧ SlotsSound State.reset ∧
    State.reset.arbiter.busy = false ∧ State.reset.arbiter.selected = none ∧ State.reset.arbiter.lastMaster = none ∧
    State.reset.arbiter.runCount = 0 ∧ upkeepRequests State.reset = false ∧
    State.reset.upkeep.cursor = 0 ∧ State.reset.upkeep.due = false ∧ State.reset.upkeep.burstCount = 0 ∧
    State.reset.upkeep.timerRunning = false ∧ State.reset.upkeep.timer = 0 ∧ State.reset.upkeep.buffer = none ∧
    State.reset.upkeep.lastBurst = none ∧ State.reset.upkeep.lastGroup = none

/-- The medium changes only where a write burst ends: no command, no record, no read and no pin touches it. -/
def Obligations.OnlyWriteEndsChangeMedium : Prop :=
  ∀ (c : Instr) (s t : State), Instr.endsWrite c = false → exec c s = .next t → t.medium = s.medium

/-- A record laid out as R160 and R162 give is run as the command it spells, with each parameter in its place. -/
def Obligations.CommandRecordsSpellCommands : Prop :=
  ∀ (p : Port) (tag : Tag) (s : State),
    (∀ key era resale, runRecord p (commandRecord 1 tag [key, era, resale]) s = openEditionRun p tag key era resale s) ∧
    (∀ key kind seq w h pol, runRecord p (commandRecord 2 tag [key, kind, seq, w, h, pol]) s =
      defineObjectRun p tag key kind seq w h pol s) ∧
    (∀ key, runRecord p (commandRecord 3 tag [key]) s = closeEditionRun p tag key s) ∧
    (∀ key era resale, runRecord p (commandRecord 4 tag [key, era, resale]) s = amendEditionRun p tag key era resale s) ∧
    (∀ key, runRecord p (commandRecord 5 tag [key]) s = withdrawEditionRun p tag key s) ∧
    (∀ o x0 x1 y0 y1 ax mi pk, runRecord p (commandRecord 6 tag [o, x0, x1, y0, y1, ax, mi, pk]) s =
      putWindowRun p tag o x0 x1 y0 y1 ax mi pk s) ∧
    (∀ bank, runRecord p (commandRecord 7 tag [bank]) s = serviceBankRun p tag bank s) ∧
    (∀ key, runRecord p (commandRecord 8 tag [key]) s = lockEditionRun p tag key s) ∧
    (∀ key, runRecord p (commandRecord 9 tag [key]) s = unlockEditionRun p tag key s) ∧
    runRecord p (commandRecord 10 tag []) s = scrubStrobeRun p tag s ∧
    (∀ n, runRecord p (commandRecord 11 tag [n]) s = scrubBurstRun p tag n s) ∧
    runRecord p (commandRecord 12 tag []) s = takeDamageRun p tag s ∧
    (∀ set pol knots lift, knots.length = 9 → runRecord p (commandRecord 13 tag ([set, pol] ++ knots ++ [lift])) s =
      writeCurveRun p tag set pol knots lift s) ∧
    (∀ set level, runRecord p (commandRecord 14 tag [set, level]) s = writeFillRun p tag set level s) ∧
    (∀ o sc rc q acc, runRecord p (commandRecord 15 tag [o, sc, rc, q, acc]) s = orderReprintRun p tag o sc rc q acc s) ∧
    runRecord p (commandRecord 16 tag []) s = takeChargeRun p tag s ∧
    (∀ acc, runRecord p (commandRecord 17 tag [acc]) s = openAccountRun p tag acc s) ∧
    (∀ acc, runRecord p (commandRecord 18 tag [acc]) s = suspendAccountRun p tag acc s) ∧
    (∀ acc, runRecord p (commandRecord 19 tag [acc]) s = resumeAccountRun p tag acc s) ∧
    (∀ acc, runRecord p (commandRecord 20 tag [acc]) s = closeAccountRun p tag acc s) ∧
    (∀ acc d, runRecord p (commandRecord 21 tag [acc, d]) s = setDiscountRun p tag acc d s) ∧
    (∀ acc, runRecord p (commandRecord 22 tag [acc]) s = readTallyRun p tag acc s) ∧
    (∀ acc, runRecord p (commandRecord 23 tag [acc]) s = clearTallyRun p tag acc s) ∧
    (∀ i n v, runRecord p (commandRecord 24 tag [i, n, v]) s = writeScheduleRun p tag i n v s) ∧
    (∀ y, runRecord p (commandRecord 25 tag [y]) s = setYearRun p tag y s) ∧
    runRecord p (commandRecord 26 tag []) s = readStatusRun p tag s ∧
    (∀ key, runRecord p (commandRecord 27 tag [key]) s = readEditionRun p tag key s) ∧
    (∀ o sel, runRecord p (commandRecord 28 tag [o, sel]) s = readObjectRun p tag o sel s) ∧
    (∀ key, runRecord p (commandRecord 29 tag [key]) s = listEditionsRun p tag key s) ∧
    (∀ o x0 x1 y0 y1 sc cv, runRecord p (commandRecord 30 tag [o, x0, x1, y0, y1, sc, cv]) s =
      renderRun p tag o x0 x1 y0 y1 sc cv s) ∧
    (∀ set, runRecord p (commandRecord 31 tag [set]) s = readCurveRun p tag set s) ∧
    runRecord p (commandRecord 32 tag []) s = readScheduleRun p tag s

/-! ## Refusals that every command has in common -/

/-- A command that starts outside READY is refused by the device state; one that starts in READY on a port it is not open to is
refused WRONG_PORT.  ORDER_REPRINT makes its port check first.  A refusal carries the tag and its cause alone and changes
nothing else. -/
def Obligations.DeviceStateAndPortRefuse : Prop :=
  ∀ (c : Instr) (o : OpenTo) (p : Port) (tag : Tag) (s : State), Instr.judged c = some (o, p, tag) → canStart p s = true →
    let refused (cause : Cause) : Prop := exec c s = .next (settle (pushOut p (refusedRecord tag cause []) s))
    ((Instr.portFirst c = false ∨ p = .b) →
      (s.device = .preparing → refused .notReady) ∧ (s.device = .flushing → refused .powerFail) ∧
        (s.device = .halted → refused .powerFail) ∧ (s.device = .faulted → refused .mediumFault)) ∧
    (Instr.portFirst c = true → p = .a → refused .wrongPort) ∧
    (s.device = .ready → o = .onlyA → p = .b → refused .wrongPort) ∧
    (s.device = .ready → o = .onlyB → p = .a → refused .wrongPort)

/-- A record whose kind or code names no command is refused UNKNOWN_COMMAND whatever the device state, and one of a known command
with another length than its own is refused BAD_FIELD; neither changes anything else.  While RESET is asserted no record is
taken: no command, data or control record changes anything. -/
def Obligations.UnknownRecordsRefused : Prop :=
  (∀ (p : Port) (h : Word) (payload : List Word) (s : State), canStart p s = true →
    (headerIsKnown h = false →
      exec (.unknownCommand p h payload) s =
        .next (settle (pushOut p (refusedRecord (headerTag h) .unknownCommand []) s))) ∧
    (headerIsKnown h = true → headerLength h ≠ commandLength (headerCode h) →
      runRecord p ⟨h, payload⟩ s = pushOut p (refusedRecord (headerTag h) .badField []) s)) ∧
  ∀ (c : Instr) (s : State), s.resetAsserted = true → Instr.inbound c = true → exec c s = .next s

/-! ## Editions and objects -/

/-- OPEN_EDITION: a new OPEN record at the lowest free position, its group dirty; no other edition and nothing else changes.
AMEND_EDITION: era and resale flag take the values given, even equal ones, and the group is dirty; refused NOT_LOCKED on a
CLOSED edition without a HELD lock. -/
def Obligations.OpenAndAmendEdition : Prop :=
  (∀ (tag : Tag) (key era resale : Word) (r : Resale) (pos : Nat) (s : State), Accepts .a s →
    keyInRange (keyOf key) = true → numberOf era ≤ 7 → resaleOf (numberOf resale) = some r →
    s.findEdition (keyOf key) = none → pos < 2048 → (∀ e ∈ s.editions, e.position ≠ pos) →
    (∀ q < pos, ∃ e ∈ s.editions, e.position = q) →
    ∃ t, exec (.openEdition .a tag key era resale) s = .next (settle (pushOut .a (doneRecord tag [] []) t)) ∧
      t = { s with editions := t.editions, dirty := t.dirty } ∧
      t.findEdition (keyOf key) = some ⟨⟨pos, keyOf key, .opened, numberOf era, r, 0⟩, [], false⟩ ∧
      (∀ k, k ≠ keyOf key → t.findEdition k = s.findEdition k) ∧
      ∀ g, g ∈ t.dirty ↔ g ∈ s.dirty ∨ g = 3 + pos / 256) ∧
  ∀ (tag : Tag) (key era resale : Word) (r : Resale) (e : EditionRec) (s : State), Accepts .a s →
    keyInRange (keyOf key) = true → numberOf era ≤ 7 → resaleOf (numberOf resale) = some r →
    s.findEdition (keyOf key) = some e →
    ((e.state = .opened ∨ lockOf s (keyOf key) = some .held) →
      ∃ t, exec (.amendEdition .a tag key era resale) s = .next (settle (pushOut .a (doneRecord tag [] []) t)) ∧
        t = { s with editions := t.editions, dirty := t.dirty } ∧
        t.findEdition (keyOf key) = some { e with era := numberOf era, resale := r } ∧
        (∀ k, k ≠ keyOf key → t.findEdition k = s.findEdition k) ∧
        ∀ g, g ∈ t.dirty ↔ g ∈ s.dirty ∨ g = 3 + e.position / 256) ∧
    ((e.state = .closed ∧ lockOf s (keyOf key) ≠ some .held) →
      exec (.amendEdition .a tag key era resale) s =
        .next (settle (pushOut .a (refusedRecord tag .notLocked []) s)))

/-- CLOSE_EDITION: a complete OPEN edition becomes CLOSED, its group dirty; one with an unwritten tile is refused INCOMPLETE,
naming the object and the tile, and one without objects with 511 for the tile.  (That the object number of a refusal that names no
object may be any is log entry 43.) -/
def Obligations.CloseEditionClosesComplete : Prop :=
  ∀ (tag : Tag) (key : Word) (e : EditionRec) (s : State), Accepts .a s → keyInRange (keyOf key) = true →
    s.findEdition (keyOf key) = some e → e.state = .opened →
    (e.objects = [] → ∃ number : BitVec 13, exec (.closeEdition .a tag key) s = .next (settle
      (pushOut .a (refusedRecord tag .incomplete [BitVec.ofNat 32 (number.toNat + 511 * 2 ^ 16)])
        { s with freeCount := s.freeCount + 1 }))) ∧
    (e.objects ≠ [] → (∀ r ∈ e.objects, ∀ o, s.findObject r.number = some o → ∀ m ∈ o.tileMap, m.written = true) →
      ∃ t, exec (.closeEdition .a tag key) s = .next (settle (pushOut .a (doneRecord tag [] []) t)) ∧
        t = { s with editions := t.editions, dirty := t.dirty } ∧
        t.findEdition (keyOf key) = some { e with state := .closed } ∧
        (∀ k, k ≠ keyOf key → t.findEdition k = s.findEdition k) ∧
        ∀ g, g ∈ t.dirty ↔ g ∈ s.dirty ∨ g = 3 + e.position / 256) ∧
    ∀ (before after : List ObjectRef) (r : ObjectRef) (o : ObjectRec) (i : Nat) (m : MapEntry),
      e.objects = before ++ r :: after →
      (∀ q ∈ before, ∀ u, s.findObject q.number = some u → ∀ m ∈ u.tileMap, m.written = true) →
      s.findObject r.number = some o → o.tileMap[i]? = some m → m.written = false →
      (∀ j < i, ∀ m, o.tileMap[j]? = some m → m.written = true) →
      exec (.closeEdition .a tag key) s = .next (settle
        (pushOut .a (refusedRecord tag .incomplete [BitVec.ofNat 32 (o.number % 2 ^ 13 + i * 2 ^ 16)]) s))

/-- DEFINE_OBJECT: the record at the lowest free number, its slots the first pool entries in banks that are not OFFLINE in their
order, its entry in the edition's list, and the written-under-lock mark of a CLOSED edition. -/
def Obligations.DefineObjectAllocatesSlots : Prop :=
  ∀ (tag : Tag) (key kind sequence width height polarity : Word) (k : ObjectKind) (pol : Polarity) (e : EditionRec)
    (number : Nat) (s : State), Accepts .a s → kindOf (numberOf kind) = some k → polarityOf (numberOf polarity) = some pol →
    keyInRange (keyOf key) = true → 1 ≤ numberOf sequence → numberOf sequence ≤ 127 → 1 ≤ numberOf width →
    numberOf width ≤ 16 → 1 ≤ numberOf height → numberOf height ≤ 24 → s.findEdition (keyOf key) = some e →
    (e.state = .opened ∨ lockOf s (keyOf key) = some .held) →
    (∀ r ∈ e.objects, ¬ (r.kind = k ∧ r.sequence = numberOf sequence)) → e.objects.length < 128 →
    number < 8192 → s.findObject number = none → (∀ m < number, (s.findObject m).isSome) →
    numberOf width * numberOf height + 16 ≤ usableFree s → s.pool.Nodup →
    let ns := (s.pool.filter fun n => !slotOffline s n).take (numberOf width * numberOf height)
    ∃ t, exec (.defineObject .a tag key kind sequence width height polarity) s =
        .next (settle (pushOut .a (doneRecord tag (if k = .page ∧ pol = .negative then [.ignored] else [])
          [numberWord number, numberWord (ns.headD 0)]) t)) ∧
      t = { s with objects := t.objects, editions := t.editions, slots := t.slots, pool := t.pool, dirty := t.dirty } ∧
      t.pool = s.pool.filter (fun n => !ns.contains n) ∧
      t.findObject number = some
        ⟨⟨number, k, keyOf key, numberOf sequence, numberOf width, numberOf height, if k = .page then .print else pol,
            ns.map fun n => ⟨n, false⟩, 0⟩, ns.countP fun n => (s.slot n).damage, false⟩ ∧
      (∀ m, m ≠ number → t.findObject m = s.findObject m) ∧
      (∀ i n, ns[i]? = some n →
        t.slot n = { s.slot n with state := .assigned, owner := .tile number i, written := false }) ∧
      (∀ n, n ∉ ns → t.slot n = s.slot n) ∧
      t.findEdition (keyOf key) = some { e with
        objects := Assoc.insertBy refRank ⟨number, k, numberOf sequence⟩ e.objects
        writtenUnderLock := e.writtenUnderLock || e.state == .closed } ∧
      (∀ q, q ≠ keyOf key → t.findEdition q = s.findEdition q) ∧
      ∀ g, g ∈ t.dirty ↔ g ∈ s.dirty ∨ g = 11 + number / 32

/-- The later checks of DEFINE_OBJECT and of ORDER_REPRINT in their order: each refuses with its cause, and with the word its rule
gives, and changes nothing else. -/
def Obligations.DefineAndOrderRefusals : Prop :=
  (∀ (tag : Tag) (key kind sequence width height polarity : Word) (k : ObjectKind) (pol : Polarity) (e : EditionRec)
    (s : State), Accepts .a s → kindOf (numberOf kind) = some k → polarityOf (numberOf polarity) = some pol →
    keyInRange (keyOf key) = true → 1 ≤ numberOf sequence → numberOf sequence ≤ 127 → 1 ≤ numberOf width →
    numberOf width ≤ 16 → 1 ≤ numberOf height → numberOf height ≤ 24 → s.findEdition (keyOf key) = some e →
    let refused (cause : Cause) (extra : List Word) : Prop :=
      exec (.defineObject .a tag key kind sequence width height polarity) s =
        .next (settle (pushOut .a (refusedRecord tag cause extra) s))
    (e.state = .closed → lockOf s (keyOf key) ≠ some .held → refused .notLocked []) ∧
    ((e.state = .opened ∨ lockOf s (keyOf key) = some .held) →
      (∀ (before after : List ObjectRef) (r : ObjectRef), e.objects = before ++ r :: after →
        (∀ q ∈ before, ¬ (q.kind = k ∧ q.sequence = numberOf sequence)) → r.kind = k → r.sequence = numberOf sequence →
        refused .badField [numberWord (r.number % 2 ^ 13)]) ∧
      ((∀ r ∈ e.objects, ¬ (r.kind = k ∧ r.sequence = numberOf sequence)) →
        (128 ≤ e.objects.length → refused .tableFull []) ∧
        (e.objects.length < 128 → (∃ m < 8192, s.findObject m = none) →
          usableFree s < numberOf width * numberOf height + 16 → refused .noSpace [])))) ∧
  ∀ (tag : Tag) (object sizeClass rightsClass quantity account : Word) (o : ObjectRec) (e : EditionRec) (s : State),
    Accepts .b s → numberOf object ≤ 8191 → numberOf sizeClass ≤ 7 →
    numberOf rightsClass ≤ 3 → 1 ≤ numberOf quantity → numberOf quantity ≤ 999 → numberOf account ≤ 63 →
    s.findEdition o.key = some e →
    let refused (cause : Cause) : Prop := exec (.orderReprint .b tag object sizeClass rightsClass quantity account) s =
      .next (settle (pushOut .b (refusedRecord tag cause []) s))
    (s.findObject (numberOf object) = none → refused .noObject) ∧
    (s.findObject (numberOf object) = some o →
      (e.state = .opened → refused .wrongState) ∧
      (e.state = .closed → e.resale = .notForResale → refused .notForResale) ∧
      (e.state = .closed → e.resale = .forSale →
        (lockOf s o.key ≠ none → refused .editionLocked) ∧
        (lockOf s o.key = none →
          ((s.account (numberOf account)).state ≠ .opened → refused .accountState) ∧
          ((s.account (numberOf account)).state = .opened →
            (bankOffline s 0 = true → refused .catalogueOffline) ∧
            (bankOffline s 0 = false → 128 ≤ s.journal.length → refused .journalFull)))))

/-- WITHDRAW_EDITION: the edition, its objects and its lock are gone, damaged slots are RETIRED, the others are FREE at the tail
of the pool in object list order; other objects keep their records but for a withheld mark, and other slots their entries.  The
released slots leave the relocation list, a copy of one is dropped and a burst in flight for one takes no outcome; the groups of the
edition, of its objects and of the slots retired or cleared of a correction count become dirty, and no others. -/
def Obligations.WithdrawEditionReleasesAll : Prop :=
  ∀ (tag : Tag) (key : Word) (e : EditionRec) (s : State), Accepts .a s → keyInRange (keyOf key) = true →
    s.findEdition (keyOf key) = some e → (e.state = .opened ∨ lockOf s (keyOf key) = some .held) →
    let ns := editionSlots s e.objects
    let retired := ns.countP fun n => (s.slot n).damage
    ∃ t, exec (.withdrawEdition .a tag key) s =
        .next (settle (pushOut .a (doneRecord tag [] [numberWord (ns.length - retired), numberWord retired]) t)) ∧
      t = { s with editions := t.editions, objects := t.objects, dirty := t.dirty, slots := t.slots, pool := t.pool,
                   relocations := t.relocations, upkeep := t.upkeep, burst := t.burst, locks := t.locks,
                   damage := t.damage, overflow := t.overflow } ∧
      t.findEdition (keyOf key) = none ∧ (∀ k, k ≠ keyOf key → t.findEdition k = s.findEdition k) ∧
      lockOf t (keyOf key) = none ∧ (∀ k, k ≠ keyOf key → lockOf t k = lockOf s k) ∧
      (∀ r ∈ e.objects, t.findObject r.number = none ∧ ∀ d ∈ t.damage, d.object ≠ r.number) ∧
      (∀ m, (∀ r ∈ e.objects, r.number ≠ m) →
        (t.findObject m).map (fun o => { o with withheld := false }) =
          (s.findObject m).map (fun o => { o with withheld := false })) ∧
      (∀ n, n ∉ ns → (∀ c, s.upkeep.buffer = some c → c.purpose ≠ .relocation n) → t.slot n = s.slot n) ∧
      t.relocations = s.relocations.filter (fun n => !ns.contains n) ∧
      t.upkeep = { s.upkeep with buffer := t.upkeep.buffer } ∧
      (∀ c, s.upkeep.buffer = some c → (c.slot ∉ ns → t.upkeep.buffer = some c) ∧
        (c.slot ∈ ns → s.burst = none → t.upkeep.buffer = none ∧ ∀ target, c.purpose = .relocation target → target ∈ t.pool)) ∧
      (s.burst = none → t.burst = none) ∧
      (∀ b, s.burst = some b → t.burst = some { b with work := (match b.work with
        | .writeback k dropped => .writeback k (dropped || ns.contains b.slot)
        | .relocationRead target g dropped noCopy => .relocationRead target g (dropped || ns.contains b.slot) noCopy
        | .relocationWrite old dropped => .relocationWrite old (dropped || ns.contains old)
        | other => other) }) ∧
      (ns.Nodup → Assoc.wf slotDefault s.slots = true → ∀ g, g ∈ t.dirty ↔
        g ∈ s.dirty ∨ g = 3 + e.position / 256 ∨ (∃ r ∈ e.objects, g = 11 + r.number / 32) ∨
          ∃ n ∈ ns, ((s.slot n).damage = true ∨ (s.slot n).count ≠ 0) ∧ g = 267 + n / 4096) ∧
      (ns.Nodup → (∀ n ∈ ns, n ∉ s.pool) → Assoc.wf slotDefault s.slots = true → s.upkeep.buffer = none →
        t.pool = s.pool ++ ns.filter (fun n => !(s.slot n).damage) ∧
        ∀ n ∈ ns, t.slot n =
          if (s.slot n).damage then { s.slot n with state := .retired, owner := .none, relocationPending := false }
          else { s.slot n with state := .free, owner := .none, written := false, count := 0, relocationPending := false })

/-! ## Queries and READ_STATUS -/

/-- READ_EDITION and READ_OBJECT answer the record's fields at once and change nothing, and a lock hides them from Port B;
READ_STATUS is answered from either port in every device state: in PREPARING and FAULTED every count is 0, the lock table empty
and the indications clear.
(That READ_EDITION's number of objects stands twice, as an item and before the list, is log entry 24, and so is the order of the
words; that the strap word's bits without a field are reported as latched is log entry 47.) -/
def Obligations.QueriesAnswerAtOnce : Prop :=
  (∀ (p : Port) (tag : Tag) (s : State), Accepts p s →
    (∀ (key : Word) (e : EditionRec), keyInRange (keyOf key) = true → s.findEdition (keyOf key) = some e →
      ((p = .a ∨ lockOf s (keyOf key) = none) →
        exec (.readEdition p tag key) s = .next (settle (pushOut p (doneRecord tag []
          ([keyWord e.key, editionStateWord e.state, numberWord e.era, resaleWord e.resale, numberWord e.revision,
            lockWord (lockOf s e.key), flagWord e.writtenUnderLock, numberWord e.objects.length,
            numberWord e.objects.length] ++ e.objects.map refWord)) s))) ∧
      (p = .b → lockOf s (keyOf key) ≠ none →
        exec (.readEdition p tag key) s = .next (settle (pushOut p (refusedRecord tag .editionLocked []) s)))) ∧
    ∀ (object selection : Word) (o : ObjectRec), numberOf object ≤ 8191 → s.findObject (numberOf object) = some o →
      ((p = .a ∨ lockOf s o.key = none) →
        exec (.readObject p tag object selection) s = .next (settle (pushOut p (doneRecord tag []
          (numberWord o.number :: ((List.range' 1 12).filter fun place => selection.getLsbD (place - 1)).flatMap
            (objectField s o))) s))) ∧
      (p = .b → lockOf s o.key ≠ none →
        exec (.readObject p tag object selection) s =
          .next (settle (pushOut p (refusedRecord tag .editionLocked []) s)))) ∧
  ∀ (p : Port) (tag : Tag) (s : State), canStart p s = true →
    exec (.readStatus p tag) s = .next (settle (pushOut p (doneRecord tag []
      ([deviceWord s.device, numberWord s.strap.toNat, bankStatesWord (reportedBanks s)] ++
        if s.device = .preparing ∨ s.device = .faulted then List.replicate 15 0
        else [numberWord (usableFree s), numberWord (retiredCount s), numberWord s.damage.length, flagWord s.overflow,
              numberWord s.journal.length, numberWord (s.journal.countP fun e => e.state != .provisional)] ++
          s.locks.map lockEntryWord ++
          [flagWord (bankOffline s 0 && (!s.dirty.isEmpty || s.billingPending))])) s))

/-- LIST_EDITIONS answers up to 32 held keys at or above the start key, each once, in rising key order, with MORE set exactly
when a held key lies above the last one returned. -/
def Obligations.ListEditionsInKeyOrder : Prop :=
  ∀ (p : Port) (tag : Tag) (start : Word) (s : State), Accepts p s → keyInRange (keyOf start) = true →
    (∀ e ∈ s.editions, keyInRange e.key = true) → (s.editions.map (·.key)).Nodup →
    ∃ listed : List EditionRec,
      exec (.listEditions p tag start) s = .next (settle (pushOut p (doneRecord tag []
        ([numberWord listed.length] ++ listed.map (fun e => keyWord e.key ||| (editionStateWord e.state <<< 31)) ++
          [flagWord (decide (32 < s.editions.countP fun e => decide (keyRank (keyOf start) ≤ keyRank e.key)))])) s)) ∧
      listed.length = min 32 (s.editions.countP fun e => decide (keyRank (keyOf start) ≤ keyRank e.key)) ∧
      (∀ e ∈ listed, e ∈ s.editions ∧ keyRank (keyOf start) ≤ keyRank e.key) ∧
      listed.Pairwise (fun a b => keyRank a.key < keyRank b.key) ∧
      ∀ e ∈ s.editions, keyRank (keyOf start) ≤ keyRank e.key → e ∉ listed →
        ∀ f ∈ listed, keyRank f.key < keyRank e.key

/-! ## Locks -/

/-- LOCK_EDITION on a CLOSED edition without an entry: HELD and answered at once with the revision where Port B has no operation
on the edition; PENDING and in flight where it has one; LOCK_CONFLICT where an entry exists. -/
def Obligations.LockEditionHeldOrPending : Prop :=
  ∀ (tag : Tag) (key : Word) (e : EditionRec) (s : State), Accepts .a s → keyInRange (keyOf key) = true →
    s.findEdition (keyOf key) = some e → e.state = .closed →
    (lockOf s (keyOf key) ≠ none → exec (.lockEdition .a tag key) s =
      .next (settle (pushOut .a (refusedRecord tag .lockConflict []) s))) ∧
    (lockOf s (keyOf key) = none → (∀ l ∈ s.locks, l ≠ none) → exec (.lockEdition .a tag key) s =
      .next (settle (pushOut .a (refusedRecord tag .lockTableFull []) s))) ∧
    ∀ i, lockOf s (keyOf key) = none → s.locks[i]? = some none → (∀ j < i, s.locks[j]? ≠ some none) →
      (s.portB.op.edition ≠ some (keyOf key) → exec (.lockEdition .a tag key) s =
        .next (settle (pushOut .a (doneRecord tag [] [numberWord e.revision])
          { s with locks := s.locks.set i (some ⟨keyOf key, .held, .a⟩) }))) ∧
      (s.portB.op.edition = some (keyOf key) → exec (.lockEdition .a tag key) s =
        .next (settle { s with
          locks := s.locks.set i (some ⟨keyOf key, .pending, .a⟩)
          portA := { s.portA with op := .lock tag (keyOf key) } }))

/-- UNLOCK_EDITION removes a HELD entry; a set written-under-lock mark clears and raises the revision, held at 65,535. -/
def Obligations.UnlockEditionRaisesRevision : Prop :=
  ∀ (tag : Tag) (key : Word) (e : EditionRec) (s : State), Accepts .a s → keyInRange (keyOf key) = true →
    s.findEdition (keyOf key) = some e →
    (lockOf s (keyOf key) ≠ some .held → exec (.unlockEdition .a tag key) s =
      .next (settle (pushOut .a (refusedRecord tag .notLocked []) s))) ∧
    (lockOf s (keyOf key) = some .held →
      let revision := if e.writtenUnderLock then min 65535 (e.revision + 1) else e.revision
      ∃ t, exec (.unlockEdition .a tag key) s =
          .next (settle (pushOut .a (doneRecord tag [] [numberWord revision, flagWord (decide (e.revision < revision))]) t)) ∧
        t = { s with locks := t.locks, editions := t.editions, dirty := t.dirty } ∧
        lockOf t (keyOf key) = none ∧ (∀ k, k ≠ keyOf key → lockOf t k = lockOf s k) ∧
        t.findEdition (keyOf key) = some { e with revision := revision, writtenUnderLock := false } ∧
        (∀ k, k ≠ keyOf key → t.findEdition k = s.findEdition k) ∧
        ∀ g, g ∈ t.dirty ↔ g ∈ s.dirty ∨ (e.writtenUnderLock = true ∧ g = 3 + e.position / 256))

/-! ## Storing and rendering -/

/-- PUT_WINDOW that passes its checks: a store in flight with the context of R46 in BAND_READ of its first band, whose buffer holds
the tiles the window touches in that tile-row or tile-column, in band order, each fully or partly covered, and to be read exactly
where it is written and only partly covered.  The stream of a store is made of the lines of R47, rows or columns of the window in
rising order, each from its low end or, mirrored, from its high end, and takes each sample of the window once.  In BAND_FILL the data
record at the head of the input queue gives up its samples, in the packing of R48, each to its position in its tile, until the band
or the record is used up; the words beyond the one with the last needed sample set OVERRUN; a command record ends the store SHORT.
(That a record keeps its place while its last word carries into the next band is log entry 40.) -/
def Obligations.PutWindowStartsStore : Prop :=
  (∀ (tag : Tag) (object x0 x1 y0 y1 axis mirror packing : Word) (ax : Axis) (mi : Bool) (pk : Packing) (o : ObjectRec)
    (e : EditionRec) (s : State), Accepts .a s → axisOf (numberOf axis) = some ax → mirrorOf (numberOf mirror) = some mi →
    packingOf (numberOf packing) = some pk → numberOf object ≤ 8191 → s.findObject (numberOf object) = some o →
    s.findEdition o.key = some e → (e.state = .opened ∨ lockOf s o.key = some .held) →
    numberOf x0 ≤ numberOf x1 → numberOf x1 < o.width * 128 → numberOf y0 ≤ numberOf y1 →
    numberOf y1 < o.height * 128 →
    let band := match ax with | .rows => numberOf y0 / 128 | .columns => numberOf x0 / 128
    let touched : List (Nat × Nat) := match ax with
      | .rows => (List.range' (numberOf x0 / 128) (numberOf x1 / 128 + 1 - numberOf x0 / 128)).map fun col => (col, band)
      | .columns => (List.range' (numberOf y0 / 128) (numberOf y1 / 128 + 1 - numberOf y0 / 128)).map fun row => (band, row)
    let covered (col row : Nat) : Bool := decide (numberOf x0 ≤ col * 128 ∧ col * 128 + 127 ≤ numberOf x1 ∧
      numberOf y0 ≤ row * 128 ∧ row * 128 + 127 ≤ numberOf y1)
    ∃ c : StoreCtx, exec (.putWindow .a tag object x0 x1 y0 y1 axis mirror packing) s =
        .next (settle { s with portA := { s.portA with op := .store c } }) ∧
      c.tag = tag ∧ c.object = o.number ∧ c.x0 = numberOf x0 ∧ c.x1 = numberOf x1 ∧ c.y0 = numberOf y0 ∧
      c.y1 = numberOf y1 ∧ c.axis = ax ∧ c.mirror = mi ∧ c.packing = pk ∧
      c.count = (numberOf x1 - numberOf x0 + 1) * (numberOf y1 - numberOf y0 + 1) ∧
      c.cursor = 0 ∧ c.packPhase = 0 ∧ c.wordsTaken = 0 ∧ c.bandPhase = .read ∧ c.committed = 0 ∧ c.overrun = false ∧
      c.ending = none ∧ c.band = band ∧
      c.tiles = touched.map fun (col, row) =>
        { index := row * o.width + col, full := covered col row
          needsRead := !covered col row && (o.tileMap.getD (row * o.width + col) ⟨0, false⟩).written
          read := false, taken := 0, writeDone := false, samples := [] }) ∧
  ∀ c : StoreCtx, c.x0 ≤ c.x1 → c.y0 ≤ c.y1 → c.count = (c.x1 - c.x0 + 1) * (c.y1 - c.y0 + 1) →
    (∀ line k, k < (match c.axis with | .rows => c.x1 - c.x0 + 1 | .columns => c.y1 - c.y0 + 1) →
      c.position (line * (match c.axis with | .rows => c.x1 - c.x0 + 1 | .columns => c.y1 - c.y0 + 1) + k) =
        match c.axis, c.mirror with
        | .rows, false => (c.x0 + k, c.y0 + line)
        | .rows, true => (c.x1 - k, c.y0 + line)
        | .columns, false => (c.x0 + line, c.y0 + k)
        | .columns, true => (c.x0 + line, c.y1 - k)) ∧
    (∀ i < c.count, c.x0 ≤ (c.position i).1 ∧ (c.position i).1 ≤ c.x1 ∧ c.y0 ≤ (c.position i).2 ∧
      (c.position i).2 ≤ c.y1) ∧
    (∀ x y, c.x0 ≤ x → x ≤ c.x1 → c.y0 ≤ y → y ≤ c.y1 →
      ∃ i < c.count, c.position i = (x, y) ∧ ∀ j < c.count, c.position j = (x, y) → j = i) ∧
    (∀ (width : Nat) (words : List Word), c.x1 < width * 128 → (∀ bt ∈ c.tiles, tileWf bt.samples = true) →
      let per := match c.packing with | .pack3 => 3 | .pack2 => 2
      let start := c.wordsTaken * per + c.packPhase
      let ready : List Sample := (words.flatMap fun w => match c.packing with
        | .pack3 => [w.extractLsb' 0 10, w.extractLsb' 10 10, w.extractLsb' 20 10]
        | .pack2 => [w.extractLsb' 0 10, w.extractLsb' 16 10]).drop start
      let k := min (c.bandEnd c.band - c.cursor) ready.length
      let used := start + k
      let tile (i : Nat) : Nat := (c.position (c.cursor + i)).2 / 128 * width + (c.position (c.cursor + i)).1 / 128
      let place (i : Nat) : Nat := (c.position (c.cursor + i)).2 % 128 * 128 + (c.position (c.cursor + i)).1 % 128
      let t := (c.takeRecord width words).1
      let done := (c.takeRecord width words).2
      t = { c with cursor := c.cursor + k, tiles := t.tiles, wordsTaken := t.wordsTaken, packPhase := t.packPhase,
                   overrun := t.overrun,
                   bandPhase := if c.bandEnd c.band - c.cursor ≤ ready.length then .write else .fill } ∧
      (c.cursor + k = c.count → done = true ∧ t.wordsTaken = 0 ∧ t.packPhase = 0 ∧
        t.overrun = decide ((used + per - 1) / per < words.length)) ∧
      (c.cursor + k ≠ c.count → t.overrun = c.overrun ∧
        (words.length ≤ used / per → done = true ∧ t.wordsTaken = 0 ∧ t.packPhase = 0) ∧
        (used / per < words.length → done = false ∧ t.wordsTaken = used / per ∧ t.packPhase = used % per)) ∧
      t.tiles.length = c.tiles.length ∧
      ∀ (j : Nat) (bt : BandTile), c.tiles[j]? = some bt → ∃ bt', t.tiles[j]? = some bt' ∧
        bt' = { bt with taken := bt.taken + (List.range k).countP (fun i => tile i == bt.index), samples := bt'.samples } ∧
        (∀ (i : Nat) (v : Sample), i < k → tile i = bt.index → ready[i]? = some v → tileGet bt'.samples (place i) = v) ∧
        ∀ q, (∀ i < k, tile i = bt.index → place i ≠ q) → tileGet bt'.samples q = tileGet bt.samples q) ∧
    ∀ (s : State) (r : InRecord) (rest : List InRecord), s.portA.restart = .none → s.portA.op = .store c → c.bandPhase = .fill →
      s.portA.inq = r :: rest →
      (∀ o, headerIsData r.header = true → s.findObject c.object = some o →
        advance .a s = some { s with portA := { s.portA with
          op := .store (c.takeRecord o.width r.payload).1
          inq := if (c.takeRecord o.width r.payload).2 then rest else r :: rest } }) ∧
      (headerIsData r.header = false → advance .a s = some { s with portA := { s.portA with
        op := .store { c with ending := some .short, wordsTaken := 0, packPhase := 0, bandPhase := .write } } })

/-- Every step keeps the laws of the slots and of the free pool: once preparation has reconciled the tables, every tile position of
every object names one ASSIGNED slot that names it back with the same written mark, the pool holds FREE slots only and none
twice, and the target of a relocation under way belongs to that relocation. -/
def Obligations.StepKeepsSlotsSound : Prop :=
  ∀ s t : State, SlotsSound s → step s = .next t → SlotsSound t

/-- RENDER that passes its checks: in flight at scale 4 from Port B and at the scale given from Port A, over the window given, in
BAND_READ of its first band, with a snapshot of the set of the edition's era or of Port A's override, and the notes SCALED and
IGNORED from Port B.  An output sample of a render is the snapshot's fill level where its tile is classed fill, and else the
restoration of the single stored sample at its position.  BAND_EMIT packs the band's output samples four to a word, the first lowest,
across rows and bands, and completes the last word with zero bytes; a record of 256 words, or with the last word, is placed where
the response queue has a place, and holds the render otherwise. -/
def Obligations.RenderStartsWithSnapshot : Prop :=
  (∀ (p : Port) (tag : Tag) (object x0 x1 y0 y1 scale curve : Word) (o : ObjectRec) (e : EditionRec) (s : State),
    Accepts p s → numberOf object ≤ 8191 → numberOf scale ∈ [1, 2, 4] → (p = .a → numberOf curve ≤ 8) →
    s.findObject (numberOf object) = some o → s.findEdition o.key = some e →
    numberOf x0 ≤ numberOf x1 → numberOf x1 < o.width * 128 → numberOf y0 ≤ numberOf y1 →
    numberOf y1 < o.height * 128 →
    (p = .b → e.state = .closed ∧ lockOf s o.key = none) →
    let sc := if p = .b then 4 else numberOf scale
    let set := if p = .a ∧ numberOf curve ≠ 8 then numberOf curve else e.era
    ∃ c : RenderCtx, exec (.render p tag object x0 x1 y0 y1 scale curve) s =
        .next (settle (s.modPort p fun q =>
          { q with op := .render c, snapshot := some ⟨set, s.curves.getD set CurveSet.blank⟩ })) ∧
      c.tag = tag ∧ c.key = o.key ∧ c.object = o.number ∧ c.scale = sc ∧ c.polarity = o.polarity ∧
      c.x0 = numberOf x0 ∧ c.x1 = numberOf x1 ∧ c.y0 = numberOf y0 ∧ c.y1 = numberOf y1 ∧ c.band = numberOf y0 / 128 ∧
      c.width = (numberOf x1 - numberOf x0) / sc + 1 ∧ c.height = (numberOf y1 - numberOf y0) / sc + 1 ∧
      c.count = c.width * c.height ∧ c.bandPhase = .read ∧ c.classes = [] ∧ c.cursor = 0 ∧ c.packPhase = 0 ∧ c.record = [] ∧
      c.wordsPlaced = 0 ∧ c.impairedMet = 0 ∧ c.unwrittenMet = 0 ∧ c.correctedWords = 0 ∧ c.cancelled = false ∧
      (.scaled ∈ c.notes ↔ p = .b ∧ numberOf scale ≠ 4) ∧ (.ignored ∈ c.notes ↔ p = .b ∧ numberOf curve ≠ 8)) ∧
  (∀ (c : RenderCtx) (o : ObjectRec) (set : CurveSet) (i j : Nat) (cls : TileClass), i < c.width →
    let x := c.x0 + i * c.scale
    let y := c.y0 + j * c.scale
    (c.classes.find? fun t => t.1 == y / 128 * o.width + x / 128) = some (y / 128 * o.width + x / 128, cls) →
    c.outputSample o set (j * c.width + i) =
      match cls with
      | .fill => set.fill
      | .computed samples => restoreSample set c.polarity (tileGet samples (y % 128 * 128 + x % 128))) ∧
  (∀ (c : RenderCtx) (o : ObjectRec) (set : CurveSet),
    let byte (w : Word) (j : Nat) : BitVec 8 := w.extractLsb' (8 * j) 8
    let words := c.record.length
    let phase := c.packPhase
    let m := min ((256 - words) * 4 - phase) (c.bandEnd c.band - c.cursor)
    let t := c.emit o set
    let out (i : Nat) : Word := (t.record ++ [t.building]).getD i 0
    phase < 4 → (∀ j, phase ≤ j → j < 4 → byte c.building j = 0) →
    t = { c with cursor := c.cursor + m, building := t.building, record := t.record,
                 packPhase := if c.cursor + m = c.count then 0 else (phase + m) % 4 } ∧
    t.record.length = (if c.cursor + m = c.count then (4 * words + phase + m + 3) / 4 else (4 * words + phase + m) / 4) ∧
    (∀ i < words, t.record[i]? = c.record[i]?) ∧
    (∀ j < phase, byte (out words) j = byte c.building j) ∧
    (∀ i < m, byte (out ((4 * words + phase + i) / 4)) ((phase + i) % 4) = BitVec.ofNat 8 (c.outputSample o set (c.cursor + i))) ∧
    (c.cursor + m = c.count → ∀ j, 0 < (phase + m) % 4 → (phase + m) % 4 ≤ j → j < 4 →
      byte (out ((4 * words + phase + m) / 4)) j = 0)) ∧
  ∀ (p : Port) (c : RenderCtx) (o : ObjectRec) (s : State), (s.port p).restart = .none → (s.port p).op = .render c →
    c.cancelled = false → c.bandPhase = .emit → portInBurst p s = false → s.findObject c.object = some o →
    let complete : Prop := c.record.length = 256 ∨ (c.cursor = c.count ∧ c.packPhase = 0 ∧ c.record ≠ [])
    (complete → (s.port p).outq.length < 16 → advance p s = some (s.modPort p fun e =>
      { e with op := .render { c with record := [], wordsPlaced := c.wordsPlaced + c.record.length }
               outq := e.outq ++ [.data c.record] })) ∧
    (complete → 16 ≤ (s.port p).outq.length → advance p s = none) ∧
    ∀ v, (s.port p).snapshot = some v → ¬ complete → c.cursor ≠ c.count → c.cursor < c.bandEnd c.band →
      advance p s = some (s.modPort p fun e => { e with op := .render (c.emit o v.curves) })

/-- The restoration of one sample: the knot below the input and the rounded share of the segment, then the lift and the clamp;
the output is 0 to 255 and the curve value lies between the two knots. -/
def Obligations.SampleArithmetic : Prop :=
  (∀ (knots : List Nat) (v : Nat), knots.length = 9 → (∀ k ∈ knots, k ≤ 255) → v < 1024 →
    let lo := knots.getD (v / 128) 0
    let hi := knots.getD (v / 128 + 1) 0
    curveValue knots v = lo + Int.fdiv (((hi : Int) - lo) * (v % 128) + 64) 128 ∧
      (min lo hi : Nat) ≤ curveValue knots v ∧ curveValue knots v ≤ (max lo hi : Nat)) ∧
  (∀ (set : CurveSet) (v : Sample),
    restoreSample set .print v =
      (max 0 (min 255 (curveValue set.print.knots v.toNat + set.print.lift))).toNat ∧
    restoreSample set .negative v =
      (max 0 (min 255 (curveValue set.negative.knots (1023 - v.toNat) + set.negative.lift))).toNat) ∧
  ∀ (set : CurveSet) (pol : Polarity) (v : Sample), restoreSample set pol v ≤ 255

/-! ## Curve sets -/

/-- WRITE_CURVE replaces the named curve with the lift clamped to −32 to +31, WRITE_FILL the fill level, READ_CURVE reports a set;
the writes dirty the settings group and leave everything else. -/
def Obligations.CurveCommands : Prop :=
  ∀ (tag : Tag) (set : Word) (s : State), numberOf set ≤ 7 →
    (∀ (polarity lift : Word) (knots : List Word) (pol : Polarity), Accepts .a s → polarityOf (numberOf polarity) = some pol →
      knots.length = 9 → (∀ k ∈ knots, numberOf k ≤ 255) →
      let l : Int := (lift.setWidth 8).toInt
      let stored := max (-32) (min 31 l)
      let curve : Curve := ⟨knots.map numberOf, stored⟩
      let old := s.curves.getD (numberOf set) CurveSet.blank
      exec (.writeCurve .a tag set polarity knots lift) s = .next (settle (pushOut .a
        (doneRecord tag (if stored = l then [] else [.clamped]) [(BitVec.ofInt 8 stored).setWidth 32])
        { s with
          curves := s.curves.set (numberOf set)
            (match pol with | .print => { old with print := curve } | .negative => { old with negative := curve })
          dirty := Assoc.addNat 2 s.dirty }))) ∧
    (∀ level : Word, Accepts .a s → numberOf level ≤ 255 →
      exec (.writeFill .a tag set level) s = .next (settle (pushOut .a (doneRecord tag [] [])
        { s with
          curves := s.curves.set (numberOf set)
            { s.curves.getD (numberOf set) CurveSet.blank with fill := numberOf level }
          dirty := Assoc.addNat 2 s.dirty }))) ∧
    ∀ p : Port, Accepts p s →
      let t := s.curves.getD (numberOf set) CurveSet.blank
      exec (.readCurve p tag set) s = .next (settle (pushOut p (doneRecord tag []
        ([numberWord (numberOf set)] ++ t.print.knots.map numberWord ++ [liftWord t.print.lift] ++
          t.negative.knots.map numberWord ++ [liftWord t.negative.lift] ++ [numberWord t.fill])) s))

/-! ## Scrub commands, the damage list and SERVICE_BANK -/

/-- SCRUB_STROBE by mode and due flag, SCRUB_BURST by its count, and the expiry of the interval timer. -/
def Obligations.ScrubRequests : Prop :=
  (∀ (tag : Tag) (s : State), Accepts .a s →
    exec (.scrubStrobe .a tag) s = .next (settle (
      if scrubMode s.strap = .timed then pushOut .a (doneRecord tag [.ignored] []) s
      else if s.upkeep.due = true then pushOut .a (doneRecord tag [.absorbed] []) s
      else pushOut .a (doneRecord tag [] []) { s with upkeep := { s.upkeep with
        due := true, timer := if scrubMode s.strap = .fallback then 0 else s.upkeep.timer } }))) ∧
  (∀ (tag : Tag) (count : Word) (s : State), Accepts .a s →
    exec (.scrubBurst .a tag count) s = .next (settle (
      if numberOf count < 1 ∨ 128 < numberOf count then pushOut .a (refusedRecord tag .badField []) s
      else if 0 < s.upkeep.burstCount then pushOut .a (refusedRecord tag .wrongState []) s
      else pushOut .a (doneRecord tag [] []) { s with upkeep := { s.upkeep with burstCount := numberOf count } }))) ∧
  ∀ s : State, s.upkeep.timerRunning = true →
    exec .scrubTimerExpiry s = .next (settle { s with upkeep := { s.upkeep with due := true, timer := 0 } })

/-- TAKE_DAMAGE removes and returns the oldest entry; a freed place goes to the lowest-numbered withheld object; an empty list
answers EMPTY. -/
def Obligations.TakeDamageTakesOldest : Prop :=
  ∀ (tag : Tag) (s : State), Accepts .a s →
    (s.damage = [] → exec (.takeDamage .a tag) s = .next (settle (pushOut .a (doneRecord tag [.empty] []) s))) ∧
    ∀ (d : DamageEntry) (rest : List DamageEntry), s.damage = d :: rest →
      ∃ t, exec (.takeDamage .a tag) s = .next (settle (pushOut .a (doneRecord tag []
          [numberWord d.object, keyWord d.key, kindWord d.kind, numberWord d.impaired, tileIndexWord d.firstDamaged]) t)) ∧
        t = { s with damage := t.damage, objects := t.objects, overflow := t.overflow } ∧
        t.damage.take rest.length = rest ∧
        ((∀ o ∈ s.objects, o.withheld = false) → t = { s with damage := rest, overflow := false }) ∧
        ∀ (before after : List ObjectRec) (o : ObjectRec), s.objects = before ++ o :: after →
          (∀ q ∈ before, q.withheld = false) → o.withheld = true → rest.length < 128 →
          t.damage[rest.length]? = some ⟨o.number, o.key, o.kind, o.impairedCount, firstDamaged s o⟩

/-- SERVICE_BANK asks for a probe of a configured bank; the probe's end sets the bank ONLINE or OFFLINE, whatever it was, and the
command is answered DONE, with cause MEDIUM_FAULT where the probe failed.  A change of the bank's state is reported to both ports
by a BANK_STATE notice, merged into the port's mark where the notice finds no place, and a change into or out of OFFLINE
recomputes the impaired tile count of every object with a tile in the bank, and of its damage list entry. -/
def Obligations.ServiceBankProbes : Prop :=
  (∀ (tag : Tag) (bank : Word) (s : State), Accepts .a s →
    exec (.serviceBank .a tag bank) s = .next (settle (
      if numberOf bank < bankCount s.strap then
        { s with portA := { s.portA with op := .probe tag (numberOf bank) false } }
      else pushOut .a (refusedRecord tag .badField []) s))) ∧
  ∀ (ending : ProbeEnd) (b : Burst) (tag : Tag) (bank : Nat) (granted : Bool) (s : State), s.burst = some b →
    b.work = .probe → s.portA.op = .probe tag bank granted →
    let n := b.slot / 16384
    let was := s.banks.getD n .online
    let now : BankState := match ending with | .succeeded => .online | .failed => .offline
    let crossed : Bool := decide (was ≠ now ∧ (was = .offline ∨ now = .offline))
    let counted (t : State) (o : ObjectRec) : Nat :=
      if crossed && o.tileMap.any (fun m => m.slot / 16384 == n) then
        o.tileMap.countP fun m => (s.slot m.slot).damage || t.banks.getD (m.slot / 16384) .online == .offline
      else o.impairedCount
    ∃ t, exec (.probeComplete ending) s = .next (settle t) ∧ t.banks = s.banks.set n now ∧
      t.portA.op = .respond ⟨tag, .done, (match ending with | .succeeded => none | .failed => some .mediumFault), [], []⟩
        none false ∧
      t.burst = none ∧ t.medium = s.medium ∧ t.editions = s.editions ∧ t.journal = s.journal ∧ t.accounts = s.accounts ∧
      (∀ p, (was = now → (t.port p).outq = (s.port p).outq ∧ (t.port p).bankMark = (s.port p).bankMark) ∧
        (was ≠ now →
          ((s.port p).outq.length < 16 → (s.port p).bankMark = none → (t.port p).bankMark = none ∧
            (t.port p).outq = (s.port p).outq ++ [.notice (.bankState n (reportedBank t n) (reportedBanks t) false)]) ∧
          ((16 ≤ (s.port p).outq.length ∨ (s.port p).bankMark ≠ none) →
            (t.port p).outq = (s.port p).outq ∧ (t.port p).bankMark = some n))) ∧
      t.objects = s.objects.map (fun o => { o with impairedCount := counted t o }) ∧
      ∀ (i : Nat) (d : DamageEntry) (o : ObjectRec), s.damage[i]? = some d → s.findObject d.object = some o →
        (crossed = true → o.tileMap.any (fun m => m.slot / 16384 == n) = true →
          t.damage[i]? = some { d with impaired := counted t o }) ∧
        ((crossed = false ∨ o.tileMap.any (fun m => m.slot / 16384 == n) = false) → t.damage[i]? = some d)

/-! ## Orders, charges, accounts, schedule -/

/-- The quote of an order: the first band whose bound is at least the age, the unit prices rounded to the nearest cent, and the
gross held at 99,999,999 with SATURATED. -/
def Obligations.QuoteArithmetic : Prop :=
  ∀ (sch : Schedule) (now year sc rc q : Nat), sch.bound.length = 8 → sch.base.length = 8 → sch.surcharge.length = 8 →
    sch.rights.length = 4 → sc ≤ 7 → rc ≤ 3 → 1 ≤ q → q ≤ 999 → (∀ b ∈ sch.base, b ≤ 999999) →
    (∀ p ∈ sch.surcharge, p ≤ 300) → (∀ m ∈ sch.rights, 25 ≤ m ∧ m ≤ 400) →
    let z := quote sch now year sc rc q
    let unit := (sch.base.getD sc 0 * (100 + sch.surcharge.getD z.band 0) + 50) / 100
    z.band ≤ 7 ∧
      (z.band < 7 → now - year ≤ sch.bound.getD z.band 0) ∧ (∀ i < z.band, sch.bound.getD i 0 < now - year) ∧
      unit ≤ 3999996 ∧ z.unit2 = (unit * sch.rights.getD rc 0 + 50) / 100 ∧ z.unit2 ≤ 15999984 ∧
      (99999999 < z.unit2 * q → z.gross = 99999999 ∧ z.saturated = true) ∧
      (z.unit2 * q ≤ 99999999 → z.gross = z.unit2 * q ∧ z.saturated = false)

/-- The completion amount of an order, R127 and R128 step by step, and the bounds they state. -/
def Obligations.CompletionArithmetic : Prop :=
  ∀ (e : JournalEntry) (g : Grade),
    let sum := match g with | .full => e.discount | .reduced => e.discount + e.damageDiscount
    let dt := if 90 < sum then 90 else sum
    let net1 := e.gross - e.gross * dt / 100
    (charge e g).discountClamped = decide (90 < sum) ∧
      (charge e g).net = (if net1 < e.minimum then e.minimum else net1) ∧
      (charge e g).minApplied = decide (net1 < e.minimum) ∧
      (e.gross + 9) / 10 ≤ net1 ∧ e.minimum ≤ (charge e g).net ∧
      (e.gross ≤ 99999999 → e.minimum ≤ 999999 → (charge e g).net ≤ 99999999) ∧
      (e.gross < (charge e g).net → (charge e g).minApplied = true) ∧
      (e.discount ≤ 50 → (charge e .full).discountClamped = false)

/-- ORDER_REPRINT that passes its nine checks: a PROVISIONAL entry with its quote and snapshots, the next sequence number, a
billing flush pending, and the order in flight with the render of the whole object at scale 1. -/
def Obligations.OrderReprintAccepted : Prop :=
  ∀ (tag : Tag) (object sizeClass rightsClass quantity account : Word) (o : ObjectRec) (e : EditionRec) (s : State),
    Accepts .b s → numberOf object ≤ 8191 → s.findObject (numberOf object) = some o → numberOf sizeClass ≤ 7 →
    numberOf rightsClass ≤ 3 → 1 ≤ numberOf quantity → numberOf quantity ≤ 999 → numberOf account ≤ 63 →
    s.findEdition o.key = some e → e.state = .closed → e.resale = .forSale → lockOf s o.key = none →
    (s.account (numberOf account)).state = .opened → bankOffline s 0 = false → s.journal.length < 128 →
    let q := quote s.schedule s.year o.key.year (numberOf sizeClass) (numberOf rightsClass) (numberOf quantity)
    let entry : JournalEntry :=
      { sequence := s.sequence, account := numberOf account, object := o.number, key := o.key, revision := e.revision,
        sizeClass := numberOf sizeClass, rightsClass := numberOf rightsClass, quantity := numberOf quantity,
        band := q.band, unit2 := q.unit2, gross := q.gross, saturated := q.saturated,
        damageDiscount := s.schedule.damageDiscount, minimum := s.schedule.minimum,
        discount := (s.account (numberOf account)).discount, state := .provisional, grade := none, net := 0,
        discountClamped := false, minApplied := false }
    ∃ c : RenderCtx, exec (.orderReprint .b tag object sizeClass rightsClass quantity account) s =
        .next (settle { s with
          journal := s.journal ++ [entry], sequence := s.sequence + 1, billingPending := true
          portB := { s.portB with
            op := .order ⟨s.sequence, .entryFlush .waiting, c⟩
            snapshot := some ⟨e.era, s.curves.getD e.era CurveSet.blank⟩ } }) ∧
      c.tag = tag ∧ c.key = o.key ∧ c.object = o.number ∧ c.scale = 1 ∧ c.x0 = 0 ∧ c.x1 = o.width * 128 - 1 ∧ c.y0 = 0 ∧
      c.y1 = o.height * 128 - 1 ∧ c.polarity = o.polarity

/-- The completion step: the entry becomes FINAL with the grade of the object's impaired count as it stands and the charge of
R127 and R128, and the account's tally rises by the net, held at 9,999,999,999, with its order count. -/
def Obligations.CompletionStepCharges : Prop :=
  ∀ (o : OrderCtx) (e : JournalEntry) (obj : ObjectRec) (before after : List JournalEntry) (s : State),
    s.journal = before ++ e :: after → (∀ f ∈ before, f.sequence ≠ o.sequence) → (∀ f ∈ after, f.sequence ≠ o.sequence) →
    e.sequence = o.sequence → s.findObject o.render.object = some obj → e.account < s.accounts.length →
    let g : Grade := if 0 < obj.impairedCount then .reduced else .full
    let a := s.account e.account
    let final : JournalEntry :=
      { e with state := .final, grade := some g, net := (charge e g).net
               discountClamped := (charge e g).discountClamped, minApplied := (charge e g).minApplied }
    completeOrder .b o s = { s with
      journal := before ++ final :: after
      billingPending := true
      accounts := s.accounts.set e.account { a with
        tally := if a.tally + (charge e g).net ≤ 9999999999 then a.tally + (charge e g).net else 9999999999
        saturated := a.saturated || decide (9999999999 < a.tally + (charge e g).net)
        orders := if a.orders < 65535 then a.orders + 1 else 65535 }
      portB := { s.portB with op := .order { o with stage := .finalFlush .waiting } } }

/-- TAKE_CHARGE: NONE_READY where no entry is ready, refused CATALOGUE_OFFLINE where bank 0 is OFFLINE, else the oldest entry is
removed and returned after a billing flush. -/
def Obligations.TakeChargeTakesOldest : Prop :=
  ∀ (tag : Tag) (s : State), Accepts .b s →
    ((s.journal = [] ∨ ∃ e rest, s.journal = e :: rest ∧ e.state = .provisional) →
      exec (.takeCharge .b tag) s = .next (settle (pushOut .b (doneRecord tag [.noneReady] []) s))) ∧
    ∀ e rest, s.journal = e :: rest → e.state ≠ .provisional →
      (bankOffline s 0 = true → exec (.takeCharge .b tag) s =
        .next (settle (pushOut .b (refusedRecord tag .catalogueOffline []) s))) ∧
      (bankOffline s 0 = false → exec (.takeCharge .b tag) s =
        .next (settle { s with
          journal := rest, billingPending := true
          portB := { s.portB with op := .flushWait (doneResponse tag [] (entryWords e)) .waiting } }))

/-- The six account commands that change a record: each from the states it is allowed in makes its change at once, with a billing
flush pending, and waits for that flush; READ_TALLY answers at once and changes nothing.
(How the ten digits of a tally are split over their two words is log entry 46.) -/
def Obligations.AccountCommands : Prop :=
  ∀ (tag : Tag) (account : Word) (s : State), Accepts .b s → numberOf account ≤ 63 →
    let n := numberOf account
    let a := s.account n
    let waits (c : Instr) (r : Response) (a' : Account) : Prop := bankOffline s 0 = false → exec c s =
      .next (settle { s with accounts := s.accounts.set n a', billingPending := true,
                             portB := { s.portB with op := .flushWait r .waiting } })
    let refused (c : Instr) (cause : Cause) : Prop :=
      exec c s = .next (settle (pushOut .b (refusedRecord tag cause []) s))
    let items := [accountStateWord a.state, digitsWord 3 a.discount] ++ tallyWords a.tally ++
      [flagWord a.saturated, numberWord a.orders]
    (a.state = .closed → waits (.openAccount .b tag account) (doneResponse tag [] []) ⟨.opened, 0, 0, false, 0⟩) ∧
    (a.state ≠ .closed → refused (.openAccount .b tag account) .accountState) ∧
    (a.state = .opened → waits (.suspendAccount .b tag account) (doneResponse tag [] []) { a with state := .suspended }) ∧
    (a.state ≠ .opened → refused (.suspendAccount .b tag account) .accountState) ∧
    (a.state = .suspended → waits (.resumeAccount .b tag account) (doneResponse tag [] []) { a with state := .opened }) ∧
    (a.state ≠ .suspended → refused (.resumeAccount .b tag account) .accountState) ∧
    (a.state ≠ .closed → waits (.closeAccount .b tag account) (doneResponse tag [] []) { a with state := .closed }) ∧
    (a.state = .closed → refused (.closeAccount .b tag account) .accountState) ∧
    (∀ d : Word, digitsGood 3 d = true → a.state ≠ .closed →
      waits (.setDiscount .b tag account d)
        (doneResponse tag (if digitsValue 3 d ≤ 50 then [] else [.clamped]) [digitsWord 3 (min 50 (digitsValue 3 d))])
        { a with discount := min 50 (digitsValue 3 d) }) ∧
    (∀ d : Word, digitsGood 3 d = true → a.state = .closed → refused (.setDiscount .b tag account d) .accountState) ∧
    (∀ d : Word, digitsGood 3 d = false → refused (.setDiscount .b tag account d) .badDigit) ∧
    waits (.clearTally .b tag account) (doneResponse tag [] items) { a with tally := 0, saturated := false } ∧
    (bankOffline s 0 = true → refused (.clearTally .b tag account) .catalogueOffline) ∧
    exec (.readTally .b tag account) s = .next (settle (pushOut .b (doneRecord tag [] items) s))

/-- WRITE_SCHEDULE stores a value brought into its item's range as the table of R120 gives, with a CLAMPED note where it was
changed, dirties the settings group and changes nothing else. -/
def Obligations.WriteScheduleClamps : Prop :=
  ∀ (tag : Tag) (item index value : Word) (i : ScheduleItem) (s : State), Accepts .b s → digitsGood 6 value = true →
    itemOf (numberOf item) = some i → numberOf index < itemEntries i →
    let v := digitsValue (itemDigits i) value
    let stored := match i with
      | .base => v
      | .minimum => v
      | .ageBound => if v ≤ 400 then v else 400
      | .surcharge => if v ≤ 300 then v else 300
      | .rights => if v < 25 then 25 else if v ≤ 400 then v else 400
      | .damageDiscount => if v ≤ 90 then v else 90
    let n := numberOf index
    exec (.writeSchedule .b tag item index value) s = .next (settle (pushOut .b
      (doneRecord tag (if stored = v then [] else [.clamped]) [digitsWord (itemDigits i) stored])
      { s with
        dirty := Assoc.addNat 2 s.dirty
        schedule := match i with
          | .base => { s.schedule with base := s.schedule.base.set n stored }
          | .minimum => { s.schedule with minimum := stored }
          | .ageBound => { s.schedule with bound := s.schedule.bound.set n stored }
          | .surcharge => { s.schedule with surcharge := s.schedule.surcharge.set n stored }
          | .rights => { s.schedule with rights := s.schedule.rights.set n stored }
          | .damageDiscount => { s.schedule with damageDiscount := stored } }))

/-- SET_YEAR replaces both copies of the year as one step and waits for a billing flush; READ_SCHEDULE returns the schedule and
the year as they stand. -/
def Obligations.SetYearAndReadSchedule : Prop :=
  (∀ (tag : Tag) (year : Word) (s : State), Accepts .b s →
    let y := digitsValue 4 year
    (digitsGood 4 year = false → exec (.setYear .b tag year) s =
      .next (settle (pushOut .b (refusedRecord tag .badDigit []) s))) ∧
    (digitsGood 4 year = true → (y < 1800 ∨ 2199 < y) → exec (.setYear .b tag year) s =
      .next (settle (pushOut .b (refusedRecord tag .badField []) s))) ∧
    (digitsGood 4 year = true → 1800 ≤ y → y ≤ 2199 →
      (bankOffline s 0 = true → exec (.setYear .b tag year) s =
        .next (settle (pushOut .b (refusedRecord tag .catalogueOffline []) s))) ∧
      (bankOffline s 0 = false → exec (.setYear .b tag year) s =
        .next (settle { s with
          year := y, billingYear := y, billingPending := true, dirty := Assoc.addNat 2 s.dirty
          portB := { s.portB with op := .flushWait (doneResponse tag [] [digitsWord 4 y]) .waiting } })))) ∧
  ∀ (p : Port) (tag : Tag) (s : State), Accepts p s →
    exec (.readSchedule p tag) s = .next (settle (pushOut p (doneRecord tag []
      (s.schedule.base.map (digitsWord 6) ++ s.schedule.bound.map (digitsWord 3) ++
        s.schedule.surcharge.map (digitsWord 3) ++ s.schedule.rights.map (digitsWord 3) ++
        [digitsWord 3 s.schedule.damageDiscount, digitsWord 6 s.schedule.minimum, digitsWord 4 s.year])) s))

/-! ## Links -/

/-- The kind field of a header says what a record is: kind 2 is DATA, 3 CANCEL, 4 RESTART, and every other kind is received as a
COMMAND record.  A COMMAND or DATA record that arrives enters the input queue while it has a place, and is held outside it
otherwise; a COMMAND record that is too long enters as its header, a malformed DATA record is discarded with a notice, and with a
record held nothing is taken. -/
def Obligations.RecordsEnterInputQueue : Prop :=
  (∀ (p : Port) (h : Word) (ws : List Word),
    (h.extractLsb' 29 3 = 2 → receivedRow p h ws = .dataRecordReceived p h ws) ∧
    (h.extractLsb' 29 3 = 3 → receivedRow p h ws = .cancel p ⟨h, ws⟩) ∧
    (h.extractLsb' 29 3 = 4 → receivedRow p h ws = .restart p ⟨h, ws⟩) ∧
    (h.extractLsb' 29 3 ≠ 2 → h.extractLsb' 29 3 ≠ 3 → h.extractLsb' 29 3 ≠ 4 →
      receivedRow p h ws = .commandRecordReceived p h ws)) ∧
  ∀ (p : Port) (h : Word) (payload : List Word) (s : State), s.resetAsserted = false →
    let put (r : InRecord) : State := s.modPort p fun e => { e with inq := e.inq ++ [r] }
    let hold : State := s.modPort p fun e => { e with held := some ⟨h, payload⟩ }
    let command (t : State) : Prop := exec (.commandRecordReceived p h payload) s = .next (settle t)
    let data (t : State) : Prop := exec (.dataRecordReceived p h payload) s = .next (settle t)
    (headerIsCommand h = true →
      ((s.port p).held ≠ none → command s) ∧
      ((s.port p).held = none → 8 ≤ (s.port p).inq.length → command hold) ∧
      ((s.port p).held = none → (s.port p).inq.length < 8 →
        (headerLength h ≤ 256 → command (put ⟨h, payload⟩)) ∧ (256 < headerLength h → command (put ⟨h, []⟩)))) ∧
    (headerIsData h = true →
      ((s.port p).held ≠ none → data s) ∧
      ((s.port p).held = none → 8 ≤ (s.port p).inq.length → data hold) ∧
      ((s.port p).held = none → (s.port p).inq.length < 8 →
        (1 ≤ headerLength h → headerLength h ≤ 256 → data (put ⟨h, payload⟩)) ∧
        ((headerLength h = 0 ∨ 256 < headerLength h) → data (raiseStray (headerLength h) p s))))

/-- STRAY_RECORD: a data record with no store in flight is discarded with a STRAY_DATA notice, placed at once or merged into the
port's mark; nothing else changes. -/
def Obligations.StrayRecordRaisesNotice : Prop :=
  ∀ (p : Port) (h : Word) (payload : List Word) (s : State), s.resetAsserted = false → (s.port p).restart = .none →
    (s.port p).inq = [] → (s.port p).held = none → (s.port p).op = .idle →
    ((s.port p).outq.length < 16 → (s.port p).strayMark = none →
      exec (.strayRecord p h payload) s =
        .next (settle (pushOut p (.notice (.strayData (headerLength h) 1 false)) s))) ∧
    (16 ≤ (s.port p).outq.length → (s.port p).strayMark = none →
      exec (.strayRecord p h payload) s =
        .next (settle (s.modPort p fun e => { e with strayMark := some ⟨headerLength h, 1⟩ }))) ∧
    ∀ m, (s.port p).strayMark = some m →
      exec (.strayRecord p h payload) s =
        .next (settle (s.modPort p fun e => { e with strayMark := some ⟨headerLength h, min 255 (m.count + 1)⟩ }))

/-- RECORD_TAKEN frees the head's place; OUTBOUND_WORD_TAKEN counts a word that is not the last; each stops where the port
presents no such word.
(Where it stops with a fault, the stop is the model's, log entry 4.) -/
def Obligations.OutboundWordsLeave : Prop :=
  ∀ (p : Port) (s : State),
    (∀ r rest, s.resetAsserted = false → (s.port p).outq = r :: rest →
      exec (.recordTaken p) s = .next (settle (s.modPort p fun e => { e with outq := rest, sent := 0 })) ∧
      ((s.port p).sent + 1 < (outWords r).length →
        exec (.outboundWordTaken p) s = .next (s.modPort p fun e => { e with sent := e.sent + 1 })) ∧
      ((outWords r).length ≤ (s.port p).sent + 1 → exec (.outboundWordTaken p) s = .fault .nothingPresented)) ∧
    ((s.resetAsserted = true ∨ (s.port p).outq = []) →
      exec (.recordTaken p) s = .fault .nothingPresented ∧ exec (.outboundWordTaken p) s = .fault .nothingPresented)

/-- CANCEL, kind 3, on each operation of R156's table: the operation ends CANCELLED in its own way and the data records at the head
of the input queue go without a notice; where it has no effect, nothing changes.  A PENDING lock loses its entry, a PROVISIONAL
order is voided with a billing flush pending, a render or an order with its read in flight waits for that read, and a wait for a
billing flush ends only while bank 0 is OFFLINE. -/
def Obligations.CancelEndsOperation : Prop :=
  ∀ (p : Port) (h : Word) (ws : List Word) (s : State), headerKind h = 3 → s.resetAsserted = false →
    (s.port p).held = none → (s.port p).restart = .none →
    let cut (o : Op) (t : State) : State :=
      t.modPort p fun e => { e with op := o, inq := e.inq.dropWhile fun r => headerIsData r.header }
    let cutRender (o : Op) (t : State) : State :=
      t.modPort p fun e => { e with op := o, snapshot := none, inq := e.inq.dropWhile fun r => headerIsData r.header }
    let placed (c : RenderCtx) : Nat := min (4 * c.wordsPlaced) c.count
    let ended (o : OrderCtx) (e : JournalEntry) : Op :=
      .respond ⟨o.render.tag, .cancelled, none, [],
        [e.sequence, entryFlagsWord e, digitsWord 8 e.net, numberWord (placed o.render)]⟩ (some o.render.key) false
    let answers (t : State) : Prop := exec (.cancel p ⟨h, ws⟩) s = .next (settle t)
    ((s.port p).op = .idle → answers s) ∧
    (∀ r k st, (s.port p).op = .respond r k st → answers s) ∧
    (∀ c, (s.port p).op = .store c → c.ending ≠ none → answers s) ∧
    (∀ c, (s.port p).op = .store c → c.ending = none →
      answers (cut (.store { c with ending := some .cancelled, wordsTaken := 0, packPhase := 0,
                                     bandPhase := if c.bandPhase = .fill then .write else c.bandPhase }) s)) ∧
    (∀ c, (s.port p).op = .render c →
      (c.cancelled = true → answers s) ∧
      (c.cancelled = false → portInBurst p s = false →
        answers (cutRender (.respond (c.response .cancelled (placed c) (snapshotSet s p)) (some c.key) false) s)) ∧
      (c.cancelled = false → portInBurst p s = true → answers (cut (.render { c with cancelled := true }) s))) ∧
    (∀ tag key, (s.port p).op = .lock tag key →
      answers (cut (.respond ⟨tag, .cancelled, none, [], []⟩ none false)
        { s with locks := s.locks.map fun (l : Option LockEntry) => if l.any (fun e => e.key == key) then none else l })) ∧
    (∀ tag bank, (s.port p).op = .probe tag bank true → answers s) ∧
    (∀ tag bank, (s.port p).op = .probe tag bank false →
      answers (cut (.respond ⟨tag, .cancelled, none, [], []⟩ none false) s)) ∧
    (∀ r w, (s.port p).op = .flushWait r w →
      (bankOffline s 0 = false → answers s) ∧
      (bankOffline s 0 = true → answers (cut (.respond { r with status := .cancelled } none false) s))) ∧
    ∀ (o : OrderCtx) (before after : List JournalEntry) (e : JournalEntry), (s.port p).op = .order o →
      s.journal = before ++ e :: after → (∀ f ∈ before, f.sequence ≠ o.sequence) → (∀ f ∈ after, f.sequence ≠ o.sequence) →
      e.sequence = o.sequence →
      let void : JournalEntry :=
        { e with state := .void, grade := none, net := 0, discountClamped := false, minApplied := false }
      let voided : State := { s with journal := before ++ void :: after, billingPending := true }
      (e.state = .provisional →
        (∀ w, o.stage = .entryFlush w → answers (cutRender (ended o void) voided)) ∧
        (o.stage = .rendering → o.render.cancelled = false → portInBurst p s = false →
          answers (cutRender (ended o void) voided)) ∧
        (o.stage = .rendering → o.render.cancelled = false → portInBurst p s = true →
          answers (cut (.order { o with render := { o.render with cancelled := true } }) voided))) ∧
      (o.stage = .rendering → o.render.cancelled = true → answers s) ∧
      ∀ w, o.stage = .finalFlush w →
        (bankOffline s 0 = false → answers s) ∧ (bankOffline s 0 = true → answers (cutRender (ended o e) s))

/-- RESTART, kind 4: the queues are emptied but for a record that has begun to leave, the marks cleared, and the operation set to
end; the port then answers one RESTARTED response with tag 0.  A second RESTART before that joins the first.
(That the marks are cleared in the step that takes the RESTART, and that a joining RESTART leaves the response queue as it stands,
is log entry 26.) -/
def Obligations.RestartReturnsPort : Prop :=
  ∀ (p : Port) (h : Word) (ws : List Word) (s : State), headerKind h = 4 → s.resetAsserted = false →
    (s.port p).held = none →
    ((s.port p).restart = .none → exec (.restart p ⟨h, ws⟩) s = .next (settle (s.modPort p fun e =>
      { e with inq := [], outq := if e.sent = 0 then [] else e.outq.take 1, bankMark := none, deviceMark := false,
               strayMark := none, restart := .ending }))) ∧
    ((s.port p).restart ≠ .none →
      exec (.restart p ⟨h, ws⟩) s = .next (settle (s.modPort p fun e => { e with inq := [] }))) ∧
    ((s.port p).restart = .ending → portInBurst p s = false → ∃ t, advance p s = some t ∧ (t.port p).op = .idle ∧
      (t.port p).snapshot = none ∧ (t.port p).restart = .answering ∧ (p = .a → ∀ k, lockOf t k = none)) ∧
    ((s.port p).restart = .answering → (s.port p).outq.length < 16 → advance p s = some (s.modPort p fun e =>
      { e with outq := e.outq ++ [.response ⟨0, .restarted, none, [], []⟩], restart := .none }))

/-- The attention lines of R158. -/
def Obligations.AttentionLines : Prop :=
  ∀ s : State,
    (attnA s = true ↔ s.resetAsserted = false ∧
      (s.portA.outq ≠ [] ∨ (s.damage ≠ [] ∧ s.device ≠ .preparing ∧ s.device ≠ .faulted))) ∧
    (attnB s = true ↔ s.resetAsserted = false ∧
      (s.portB.outq ≠ [] ∨ (s.device ≠ .preparing ∧ s.device ≠ .faulted ∧
        ∃ e rest, s.journal = e :: rest ∧ (e.state = .final ∨ e.state = .void))))

/-! ## The medium and the arbiter -/

/-- The samples of a tile survive being written as medium words and read back. -/
def Obligations.TileWordsRoundTrip : Prop :=
  ∀ t : Tile, tileWf t = true → unpackWords (packTile t) = t

/-- The result of a read: clean without errors, corrected with the stored data where every error is one wrong bit, uncorrectable
where a word has two, with the number of corrected words.  Each sample delivered comes from its container of its word: as stored
where the word has at most one wrong bit, and as read, wrong bits included, where it has two. -/
def Obligations.ReadResults : Prop :=
  ∀ (s : State) (n : Nat) (errors : List WordError), (∀ e ∈ errors, wrongBits e.mask = 1 ∨ wrongBits e.mask = 2) →
    let d := deliver s n (.delivered errors)
    (errors = [] → d.result = .clean) ∧
    (errors ≠ [] → (∀ e ∈ errors, wrongBits e.mask = 1) → d.result = .corrected errors.length) ∧
    ((∀ e ∈ errors, wrongBits e.mask = 1) → d.samples = unpackWords (wordsOf (mediumRead s.medium n))) ∧
    ((∃ e ∈ errors, wrongBits e.mask = 2) →
      d.result = .uncorrectable (errors.countP fun e => decide (wrongBits e.mask = 1))) ∧
    (errors.Pairwise (fun a b => a.word < b.word) → Assoc.wf zeroWord (wordsOf (mediumRead s.medium n)) = true →
      ∀ i < 16384,
        let stored := Assoc.get zeroWord (wordsOf (mediumRead s.medium n)) (i / 4)
        ((∀ e ∈ errors, e.word = i / 4 → wrongBits e.mask = 1) → tileGet d.samples i = stored.extractLsb' (16 * (i % 4)) 10) ∧
        ∀ e ∈ errors, e.word = i / 4 → wrongBits e.mask = 2 →
          tileGet d.samples i = (stored ^^^ e.mask.setWidth 64).extractLsb' (16 * (i % 4)) 10)

/-- A grant decision at the end of a burst: upkeep after a master, a master before upkeep otherwise, and between two masters the
priority mode of R68; what a grant does to the items of R65; and the piece of work that the upkeep engine chooses at its grant, the
first of R83's table whose condition holds, with the groups in the order of R15 and a copy written only while its slot's write
generation is the one it was read with (R92). -/
def Obligations.GrantDecision : Prop :=
  (∀ s : State,
    let a := portRequests .a s
    let b := portRequests .b s
    let u := upkeepRequests s
    let other (m : Port) : Port := match m with | .a => .b | .b => .a
    (u = true → (∃ m, s.arbiter.selected = some (.port m)) → decision s = some .upkeep) ∧
    ((u = false ∨ ∀ m, s.arbiter.selected ≠ some (.port m)) →
      (a = true → b = false → decision s = some (.port .a)) ∧
      (a = false → b = true → decision s = some (.port .b)) ∧
      (a = false → b = false → decision s = if u then some .upkeep else none) ∧
      (a = true → b = true →
        (aFirst s.strap = true → decision s = some (.port .a)) ∧
        (aFirst s.strap = false →
          (∀ m, s.arbiter.selected = some (.port m) →
            decision s = some (.port (if s.arbiter.runCount < 4 then m else other m))) ∧
          (∀ m, s.arbiter.selected = some .upkeep → s.arbiter.lastMaster = some m →
            decision s = some (.port (other m))) ∧
          (s.arbiter.selected ≠ some (.port .a) → s.arbiter.selected ≠ some (.port .b) →
            s.arbiter.lastMaster = none → decision s = some (.port .a)))))) ∧
  (∀ g : Arbiter,
    ((grantState .upkeep g).selected = some .upkeep ∧ (grantState .upkeep g).lastMaster = g.lastMaster ∧
      (grantState .upkeep g).runCount = 0 ∧ (grantState .upkeep g).busy = true) ∧
    ∀ m, (grantState (.port m) g).selected = some (.port m) ∧ (grantState (.port m) g).lastMaster = some m ∧
      (grantState (.port m) g).busy = true ∧
      (grantState (.port m) g).runCount = if g.selected = some (.port m) then min 4 (g.runCount + 1) else 1) ∧
  ∀ s : State, s.dirty.Pairwise (· < ·) →
    let next (g : Nat) : Prop := bankOffline s 0 = false ∧ g ∈ s.dirty ∧
      ((∃ h, s.upkeep.lastGroup = some h ∧ h < g ∧ ∀ d ∈ s.dirty, h < d → g ≤ d) ∨
        ((∀ h, s.upkeep.lastGroup = some h → ∀ d ∈ s.dirty, d ≤ h) ∧ ∀ d ∈ s.dirty, g ≤ d))
    let visits (n : Nat) : Prop := (s.upkeep.due = true ∨ 0 < s.upkeep.burstCount) ∧ visitSlot s = some n
    let relocates (old : Nat) : Prop := 1 ≤ usableFree s ∧ bankOffline s (old / 16384) = false ∧
      ∃ before after, s.relocations = before ++ old :: after ∧ ∀ q ∈ before, bankOffline s (q / 16384) = true
    let billing : Prop := s.billingPending = true ∧ bankOffline s 0 = false
    (s.device ≠ .ready → s.device ≠ .flushing → chooseWork s = none) ∧
    (s.device = .ready ∨ s.device = .flushing → billing → chooseWork s = some .billing) ∧
    (s.device = .flushing → ¬ billing →
      (∀ g, next g → chooseWork s = some (.flush g)) ∧ ((∀ g, ¬ next g) → chooseWork s = none)) ∧
    (s.device = .ready → ¬ billing →
      (∀ c, s.upkeep.buffer = some c → chooseWork s = some (.copy c)) ∧
      (s.upkeep.buffer = none →
        (∀ old, relocates old → chooseWork s = some (.relocate old)) ∧
        ((∀ old, ¬ relocates old) →
          (∀ g n, next g → visits n →
            chooseWork s = some (if s.upkeep.lastBurst = some .catalogueFlush then .scrub n else .flush g)) ∧
          (∀ g, next g → (∀ n, ¬ visits n) → chooseWork s = some (.flush g)) ∧
          (∀ n, (∀ g, ¬ next g) → visits n → chooseWork s = some (.scrub n)) ∧
          ((∀ g, ¬ next g) → (∀ n, ¬ visits n) → chooseWork s = none)))) ∧
    (∀ c, chooseWork s = some (.copy c) →
      ((s.slot c.slot).generation = c.generation → (startUpkeep s).burst = some (match c.purpose with
        | .writeback kept => ⟨.writeback kept false, c.slot, false, 0, some (.words (packTile c.samples))⟩
        | .relocation target => ⟨.relocationWrite c.slot false, target, false, 0, some (.words (packTile c.samples))⟩)) ∧
      ((s.slot c.slot).generation ≠ c.generation → (startUpkeep s).upkeep.buffer = none ∧
        (s.burst = none → ∀ b, (startUpkeep s).burst = some b →
          (∀ k d, b.work ≠ .writeback k d) ∧ ∀ old d, b.work ≠ .relocationWrite old d)))

/-- BURST_TIMEOUT: in an ONLINE bank, and for a probe in any bank, the burst starts again with a fresh timer; a second timeout, or
one in a SUSPECT bank, takes the bank OFFLINE.
(Where it stops with a fault, the stop is the model's, log entry 4.) -/
def Obligations.BurstTimeoutRetriesOnce : Prop :=
  (∀ s : State, s.burst = none → exec .burstTimeout s = .fault .noSuchBurst) ∧
  ∀ (b : Burst) (s : State), s.burst = some b →
    (b.retry = false → (b.work = .probe ∨ b.work = .prepProbe ∨
        ((∀ q, b.work ≠ .carried q) ∧ s.banks.getD (b.slot / 16384) .online = .online)) →
      exec .burstTimeout s = .next { s with burst := some { b with retry := true, timer := 0 } }) ∧
    ((∀ q, b.work ≠ .carried q) →
      (b.retry = true ∨ (b.work ≠ .probe ∧ b.work ≠ .prepProbe ∧ s.banks.getD (b.slot / 16384) .online ≠ .online)) →
      ∃ t, exec .burstTimeout s = .next (settle t) ∧ t.burst = none ∧
        t.banks = s.banks.set (b.slot / 16384) .offline)

/-- The end of a granted write burst: done, the slot holds the content written, and a bank whose retry it was becomes SUSPECT;
MEDIUM_FAULT, the bank becomes OFFLINE.  No other slot of the medium changes. -/
def Obligations.WriteBurstEnds : Prop :=
  ∀ (c : Instr) (ending : WriteEnd) (b : Burst) (content : SlotContent) (s : State), MediumCanonical s →
    s.burst = some b → b.content = some content →
    ((c = .storeWriteComplete ending ∧ ∃ i, b.work = .storeWrite i) ∨
      (c = .writebackComplete ending ∧ ∃ k d, b.work = .writeback k d) ∨
      (c = .relocationWriteComplete ending ∧ ∃ o d, b.work = .relocationWrite o d) ∨
      (c = .catalogueFlushComplete ending ∧ b.work = .catalogueFlush) ∨
      (c = .billingFlushComplete ending ∧ b.work = .billingFlush)) →
    ∃ t, exec c s = .next (settle t) ∧ t.burst = none ∧
      (∀ n, n ≠ b.slot → mediumRead t.medium n = mediumRead s.medium n) ∧
      (ending = .done → mediumRead t.medium b.slot = content ∧
        t.banks = if b.retry then s.banks.set (b.slot / 16384) .suspect else s.banks) ∧
      (ending = .mediumFault → t.banks = s.banks.set (b.slot / 16384) .offline)

/-- STORE_WRITE_COMPLETE: on DONE the tile's samples join the committed count, the slot and the map entry become written, and the
damage mark clears only where all 16,384 samples of a fully covered tile came from the stream; on MEDIUM_FAULT the store ends
with that cause and the map keeps its marks.
(That the response of such a store carries no OVERRUN note is log entry 23.) -/
def Obligations.StoreWriteEffects : Prop :=
  ∀ (c : StoreCtx) (i : Nat) (b : Burst) (bt : BandTile) (o : ObjectRec) (m : MapEntry) (s : State), s.burst = some b →
    b.work = .storeWrite i → s.portA.op = .store c → c.tiles.find? (fun t => t.index == i) = some bt → bt.index = i →
    s.findObject c.object = some o → o.tileMap[i]? = some m → m.slot = b.slot → bankOffline s (b.slot / 16384) = false →
    (∃ t, exec (.storeWriteComplete .done) s = .next (settle t) ∧
      (t.slot b.slot).written = true ∧
      (t.slot b.slot).damage = ((s.slot b.slot).damage && !(bt.full && bt.taken == 16384)) ∧
      (∃ c' : StoreCtx, t.portA.op = .store c' ∧ c'.committed = c.committed + bt.taken ∧ c'.cursor = c.cursor) ∧
      (∃ o', t.findObject c.object = some o' ∧ o'.tileMap = o.tileMap.set i ⟨b.slot, true⟩ ∧
        o'.writtenCount = (if m.written then o.writtenCount else o.writtenCount + 1)) ∧
      (m.written = false → 11 + c.object / 32 ∈ t.dirty)) ∧
    (s.portA.restart = .none → ∃ t, exec (.storeWriteComplete .mediumFault) s = .next (settle t) ∧
      (∃ st, t.portA.op = .respond ⟨c.tag, st, some .mediumFault, [], [numberWord c.committed]⟩ none true ∧
        st = if c.ending = some .cancelled then .cancelled else .short) ∧
      t.portA.inq = s.portA.inq.dropWhile (fun r => headerIsData r.header) ∧
      ∃ o', t.findObject c.object = some o' ∧ o'.tileMap = o.tileMap ∧ o'.writtenCount = o.writtenCount)

/-- READ_MERGE_COMPLETE: the tile enters the band buffer as delivered; an uncorrectable read of an undamaged tile records its
damage: the mark, the object's impaired count, and a damage notice; MEDIUM_FAULT ends the store SHORT, or CANCELLED where it was
being cancelled, with that cause, the samples written before committed, and the data records behind it discarded. -/
def Obligations.ReadMergeEffects : Prop :=
  ∀ (c : StoreCtx) (i : Nat) (b : Burst) (s : State), s.burst = some b → b.work = .storeRead i →
    s.portA.op = .store c → bankOffline s (b.slot / 16384) = false →
    (∀ errors, ∃ t, exec (.readMergeComplete (.delivered errors)) s = .next (settle t) ∧
      t.portA.op = .store { c with tiles := c.tiles.map fun bt =>
        if bt.index = i then { bt with read := true, samples := (deliver s b.slot (.delivered errors)).samples } else bt } ∧
      t.medium = s.medium ∧
      (∀ k object index, (deliver s b.slot (.delivered errors)).result = .uncorrectable k →
        (s.slot b.slot).state = .assigned → (s.slot b.slot).owner = .tile object index →
        (s.slot b.slot).damage = false →
        (t.slot b.slot).damage = true ∧ 267 + b.slot / 4096 ∈ t.dirty ∧
        ∀ o, s.findObject object = some o →
          let impaired (m : MapEntry) : Bool := m.slot == b.slot || (s.slot m.slot).damage
          let count := o.tileMap.countP fun m => impaired m || bankOffline s (m.slot / 16384)
          let listed : Bool := s.damage.any fun d => d.object == object
          let held : Bool := !listed && !o.withheld && decide (128 ≤ s.damage.length)
          t.findObject object = some { o with impairedCount := count, withheld := o.withheld || held } ∧
          t.overflow = (s.overflow || held) ∧
          t.damage = if listed then s.damage.map fun d => if d.object = object then { d with impaired := count } else d
            else if o.withheld || held then s.damage
            else s.damage ++ [⟨o.number, o.key, o.kind, count, o.tileMap.findIdx? impaired⟩]) ∧
      ((∀ k, (deliver s b.slot (.delivered errors)).result ≠ .uncorrectable k) →
        t.slots = s.slots ∧ t.damage = s.damage ∧ t.objects = s.objects)) ∧
    (s.portA.restart = .none → ∃ t, exec (.readMergeComplete .mediumFault) s = .next (settle t) ∧
      t.portA.op = .respond ⟨c.tag, if c.ending = some .cancelled then .cancelled else .short, some .mediumFault, [],
        [numberWord c.committed]⟩ none true ∧
      t.portA.inq = s.portA.inq.dropWhile (fun r => headerIsData r.header) ∧ t.medium = s.medium)

/-- RENDER_READ_COMPLETE: the tile is computed from the data delivered, or fill where the read was uncorrectable or faulted or the
slot carries the damage mark, and corrected words are counted.
(A render already told to end counts that tile too and takes no further one, log entry 22.) -/
def Obligations.RenderReadClasses : Prop :=
  ∀ (p : Port) (c : RenderCtx) (o : ObjectRec) (tile : Nat) (b : Burst) (r : ReadEnd) (s : State), s.burst = some b →
    b.work = .renderRead p → (s.port p).op.renderCtx = some c → s.findObject c.object = some o → c.nextTile o = some tile →
    bankOffline s (b.slot / 16384) = false →
    let d := deliver s b.slot r
    let lost : Bool := (match d.result with
      | .clean => false | .corrected _ => false | .uncorrectable _ => true | .bankOffline => true | .mediumFault => true)
    let corrected : Nat := (match d.result with
      | .clean => 0 | .corrected n => n | .uncorrectable n => n | .bankOffline => 0 | .mediumFault => 0)
    let fill : Bool := lost || (s.slot b.slot).damage
    ∃ t c', exec (.renderReadComplete p r) s = .next (settle t) ∧ (t.port p).op.renderCtx = some c' ∧
      c'.classes = c.classes ++ [(tile, if fill then .fill else .computed d.samples)] ∧
      c'.impairedMet = c.impairedMet + (if fill then 1 else 0) ∧ c'.unwrittenMet = c.unwrittenMet ∧
      c'.correctedWords = c.correctedWords + corrected ∧ c'.cursor = c.cursor ∧ t.medium = s.medium

/-- SCRUB_VISIT_COMPLETE by slot state and read result, as the table of R89 and R90 give: a visited slot with correction count 3 joins
the relocation list after any result, and a visit to a spare slot has no effect; a visit that FLUSHING met on its way places no copy
(R84).  A visit reads the first eligible slot from the cursor on, wrapping; its start spends the due flag and one of the burst count,
and moves the cursor to the next other eligible slot, or leaves it (R88). -/
def Obligations.ScrubVisitOutcomes : Prop :=
  (∀ (n : Nat) (s : State), n < configuredSlots s → s.upkeep.cursor < configuredSlots s →
    let size := configuredSlots s
    let ok (m : Nat) : Prop := m < size ∧ (s.slot m).state ≠ .retired ∧ bankOffline s (m / 16384) = false ∧
      ∀ old, (s.slot m).owner ≠ .relocation old
    let away (i m : Nat) : Nat := (m + size - i) % size
    let t := startScrub n s
    (visitSlot s = some n → ok n ∧ ∀ m, ok m → away s.upkeep.cursor n ≤ away s.upkeep.cursor m) ∧
    (visitSlot s = none → ∀ m, ¬ ok m) ∧
    t = { s with
      burst := some ⟨.scrub (s.slot n).generation false, n, false, 0, none⟩
      upkeep := { s.upkeep with burstCount := s.upkeep.burstCount - 1, due := false, lastBurst := some .scrubVisit,
                                cursor := t.upkeep.cursor } } ∧
    ((∀ m, ok m → m = n) → t.upkeep.cursor = n) ∧
    ((∃ m, ok m ∧ m ≠ n) → ok t.upkeep.cursor ∧ t.upkeep.cursor ≠ n ∧
      ∀ m, ok m → m ≠ n → away n t.upkeep.cursor ≤ away n m)) ∧
  ∀ (b : Burst) (g : BitVec 8) (noCopy : Bool) (errors : List WordError) (s : State), s.burst = some b →
    b.work = .scrub g noCopy →
    bankOffline s (b.slot / 16384) = false →
    let n := b.slot
    let e := s.slot n
    let d := deliver s n (.delivered errors)
    let corrected : Prop := ∃ k, d.result = .corrected k
    let uncorrectable : Prop := ∃ k, d.result = .uncorrectable k
    ∃ t, exec (.scrubVisitComplete (.delivered errors)) s = .next (settle t) ∧ t.medium = s.medium ∧
      (512 ≤ n → e.state = .free → corrected → t.slot n = { e with count := max e.count (min 3 (e.count + 1)) } ∧
        (e.count < 3 → 267 + n / 4096 ∈ t.dirty)) ∧
      (512 ≤ n → e.state = .free → uncorrectable → (t.slot n).state = .retired ∧ n ∉ t.pool ∧
        (t.slot n).count = e.count ∧ 267 + n / 4096 ∈ t.dirty) ∧
      (512 ≤ n → e.state = .assigned → e.relocationPending = false → corrected → s.device = .ready → noCopy = false →
        t.upkeep.buffer = some ⟨n, g, d.samples, .writeback e.count⟩) ∧
      ((noCopy = true ∨ s.device ≠ .ready) → t.upkeep.buffer = s.upkeep.buffer) ∧
      (512 ≤ n → e.state = .assigned → e.relocationPending = true → corrected →
        t.upkeep.buffer = s.upkeep.buffer ∧ (t.slot n).count = e.count) ∧
      (∀ object index, 512 ≤ n → e.state = .assigned → e.owner = .tile object index → e.damage = false → uncorrectable →
        (t.slot n).damage = true ∧ (t.slot n).count = e.count ∧ 267 + n / 4096 ∈ t.dirty) ∧
      (n ≤ lastGroup s → n ≠ 1 → n < 512 → (corrected ∨ uncorrectable) → n ∈ t.dirty) ∧
      (n = 1 → (corrected ∨ uncorrectable) → t.billingPending = true) ∧
      (lastGroup s < n → n < 512 → t.slots = s.slots ∧ t.dirty = s.dirty ∧ t.billingPending = s.billingPending ∧
        t.pool = s.pool ∧ t.upkeep.buffer = s.upkeep.buffer) ∧
      (let joins : Prop := 512 ≤ n ∧ e.state = .assigned ∧ e.count = 3 ∧ n ∉ s.relocations ∧ s.relocations.length < 16
       (joins → t.relocations = s.relocations ++ [n] ∧ (t.slot n).relocationPending = true) ∧
        (¬ joins → t.relocations = s.relocations)) ∧
      (d.result = .clean → e.count < 3 → t.slots = s.slots ∧ t.relocations = s.relocations ∧ t.dirty = s.dirty)

/-- WRITEBACK_COMPLETE: on DONE the count becomes the kept count plus one, held at 3, the mark group is dirty, and a slot that
reaches 3 joins the relocation list; a write-back of a slot withdrawn meanwhile takes no outcome.  The start of every write burst,
granted or of preparation, advances its slot's write generation, clears its correction count and its relocation-pending mark, and
takes it off the relocation list.
(That a write-back of a listed slot takes it off the list, which R93's table does not name, is log entry 21.) -/
def Obligations.WritebackOutcome : Prop :=
  (∀ (n : Nat) (s : State), Assoc.wf slotDefault s.slots = true →
    let t := startWrite n s
    t = { s with slots := t.slots, relocations := s.relocations.filter (· != n), dirty := t.dirty } ∧
    t.slot n = { s.slot n with generation := (s.slot n).generation + 1, count := 0, relocationPending := false } ∧
    (∀ m, m ≠ n → t.slot m = s.slot m) ∧
    ∀ g, g ∈ t.dirty ↔ g ∈ s.dirty ∨ ((s.slot n).count ≠ 0 ∧ g = 267 + n / 4096)) ∧
  (∀ (r : Requester) (s t : State) (b : Burst) (content : SlotContent), Assoc.wf slotDefault s.slots = true → s.burst = none →
    (t = grant r s ∨ prepStart s = some t) → t.burst = some b → b.content = some content →
    (t.slot b.slot).generation = (s.slot b.slot).generation + 1 ∧ (t.slot b.slot).count = 0 ∧
      (t.slot b.slot).relocationPending = false ∧ b.slot ∉ t.relocations) ∧
  ∀ (b : Burst) (kept : Nat) (dropped : Bool) (s : State), s.burst = some b → b.work = .writeback kept dropped →
    bankOffline s (b.slot / 16384) = false → 512 ≤ b.slot → 
    ∃ t, exec (.writebackComplete .done) s = .next (settle t) ∧ t.upkeep.buffer = none ∧
      (dropped = false → Assoc.wf slotDefault s.slots = true → 
        (t.slot b.slot).count = min 3 (kept + 1) ∧ (t.slot b.slot).damage = (s.slot b.slot).damage ∧
        (t.slot b.slot).written = (s.slot b.slot).written ∧ 267 + b.slot / 4096 ∈ t.dirty ∧
        (2 ≤ kept → (s.slot b.slot).state = .assigned → b.slot ∉ s.relocations → s.relocations.length < 16 →
          t.relocations = s.relocations ++ [b.slot] ∧ (t.slot b.slot).relocationPending = true) ∧
        (kept < 2 → t.relocations = s.relocations)) ∧
      (dropped = true → t.slots = s.slots ∧ t.relocations = s.relocations ∧ t.dirty = s.dirty)

/-- RELOCATION_READ_COMPLETE and RELOCATION_WRITE_COMPLETE: a copy of the old slot is kept for its target; the completed write
switches the tile map, hands the marks over and retires the old slot; a fault gives the target back at the pool's tail. -/
def Obligations.RelocationMovesTile : Prop :=
  (∀ (b : Burst) (target : Nat) (g : BitVec 8) (errors : List WordError) (s : State), s.burst = some b →
    b.work = .relocationRead target g false false → s.device = .ready → bankOffline s (b.slot / 16384) = false →
    ∃ t, exec (.relocationReadComplete (.delivered errors)) s = .next (settle t) ∧
      t.upkeep.buffer = some ⟨b.slot, g, (deliver s b.slot (.delivered errors)).samples, .relocation target⟩ ∧
      t.pool = s.pool ∧ t.relocations = s.relocations) ∧
  (∀ (b : Burst) (target : Nat) (g : BitVec 8) (noCopy : Bool) (s : State), s.burst = some b → s.upkeep.buffer = none →
    b.work = .relocationRead target g false noCopy →
    ∃ t, exec (.relocationReadComplete .mediumFault) s = .next (settle t) ∧ t.pool = s.pool ++ [target] ∧
      t.relocations = s.relocations ∧ t.upkeep.buffer = none) ∧
  ∀ (b : Burst) (old object index : Nat) (o : ObjectRec) (s : State), s.burst = some b →
    b.work = .relocationWrite old false → bankOffline s (b.slot / 16384) = false →
    ((s.slot old).owner = .tile object index → s.findObject object = some o → index < o.tileMap.length → b.slot ≠ old →
      ∃ t, exec (.relocationWriteComplete .done) s = .next (settle t) ∧ t.upkeep.buffer = none ∧
        (t.slot b.slot).owner = .tile object index ∧ (t.slot b.slot).written = (s.slot old).written ∧
        (t.slot b.slot).damage = (s.slot old).damage ∧ (t.slot b.slot).count = 0 ∧
        (t.slot old).state = .retired ∧ (t.slot old).owner = .none ∧ (t.slot old).count = (s.slot old).count ∧
        (t.slot old).damage = (s.slot old).damage ∧ old ∉ t.relocations ∧
        (∃ o', t.findObject object = some o' ∧ o'.tileMap = o.tileMap.set index ⟨b.slot, (s.slot old).written⟩) ∧
        11 + object / 32 ∈ t.dirty ∧ 267 + old / 4096 ∈ t.dirty ∧ 267 + b.slot / 4096 ∈ t.dirty) ∧
    ∃ t, exec (.relocationWriteComplete .mediumFault) s = .next (settle t) ∧ t.pool = s.pool ++ [b.slot] ∧
      t.relocations = s.relocations ∧ t.upkeep.buffer = none

/-- CATALOGUE_FLUSH_COMPLETE and BILLING_FLUSH_COMPLETE: a catalogue flush that faults sets the dirty mark again; a billing flush
that completes answers the operation whose change it carried and starts the render of an order; one that faults leaves each of them
waiting with a flush pending. -/
def Obligations.FlushOutcomes : Prop :=
  (∀ (b : Burst) (s : State), s.burst = some b → b.work = .catalogueFlush →
    (∃ t, exec (.catalogueFlushComplete .done) s = .next (settle t) ∧ t.dirty = s.dirty ∧
      t.billingPending = s.billingPending) ∧
    ∃ t, exec (.catalogueFlushComplete .mediumFault) s = .next (settle t) ∧ b.slot ∈ t.dirty) ∧
  ∀ (b : Burst) (s : State), s.burst = some b → b.work = .billingFlush →
    (∃ t, exec (.billingFlushComplete .done) s = .next (settle t) ∧ t.journal = s.journal ∧ t.accounts = s.accounts ∧
      t.billingPending = s.billingPending ∧
      (∀ r, s.portB.op = .flushWait r .inBurst → t.portB.op = .respond r none false) ∧
      (∀ r, s.portB.op = .flushWait r .waiting → t.portB.op = .flushWait r .waiting) ∧
      (∀ o, s.portB.op = .order o → o.stage = .entryFlush .inBurst → t.portB.op = .order { o with stage := .rendering }) ∧
      ∀ o e, s.portB.op = .order o → o.stage = .finalFlush .inBurst → s.findEntry o.sequence = some e →
        t.portB.op = .respond ⟨o.render.tag, .done, none, [], [e.sequence, entryFlagsWord e, digitsWord 8 e.net]⟩
          (some o.render.key) false) ∧
    ∃ t, exec (.billingFlushComplete .mediumFault) s = .next (settle t) ∧ t.billingPending = true ∧
      (∀ r, s.portB.op = .flushWait r .inBurst → t.portB.op = .flushWait r .waiting) ∧
      ∀ o, s.portB.op = .order o →
        (o.stage = .entryFlush .inBurst → t.portB.op = .order { o with stage := .entryFlush .waiting }) ∧
        (o.stage = .finalFlush .inBurst → t.portB.op = .order { o with stage := .finalFlush .waiting })

/-! ## RESET, the strap word, preparation and power -/

/-- RESET asserted discards the volatile state: everything takes its reset value but the medium, the pin of the power warning and
a write burst in flight, which is carried to its end; a read is abandoned.  A carried write's end gives its slot its content, or
leaves it unknown, and nothing else of it is kept.
(That the tables which preparation sets hold their blank defaults from the assertion on is log entry 2.) -/
def Obligations.ResetDiscardsVolatile : Prop :=
  (∀ s : State, s.resetAsserted = false →
    ∃ t, exec .resetAsserted s = .next t ∧
      t = { State.reset with pending := s.pending, resetAsserted := true, powerWarn := s.powerWarn, medium := s.medium,
                             burst := t.burst, freeCount := s.freeCount } ∧
      (∀ b, s.burst = some b → b.content = none → t.burst = none) ∧ (s.burst = none → t.burst = none) ∧
      ∀ b content, s.burst = some b → b.content = some content → ∃ b', t.burst = some b' ∧ b'.slot = b.slot ∧
        b'.content = some content ∧ b'.retry = b.retry ∧ ∃ suspect, b'.work = .carried suspect) ∧
  ∀ (b : Burst) (suspect : Bool) (content : SlotContent) (ending : WriteEnd) (s : State), MediumCanonical s →
    s.burst = some b → b.work = .carried suspect → b.content = some content →
    ∃ t, exec (.carriedWriteBurstEnd ending) s = .next (settle t) ∧
      t = { s with burst := none, medium := t.medium, freeCount := t.freeCount, arbiter := t.arbiter } ∧
      (∀ n, n ≠ b.slot → mediumRead t.medium n = mediumRead s.medium n) ∧
      (ending = .done → mediumRead t.medium b.slot = content) ∧
      (ending = .mediumFault → ∃ k, mediumRead t.medium b.slot = .unknown k)

/-- RESET released: the part is PREPARING and waits for its strap word, which is taken bit 0 first; the sixteenth bit latches it
and preparation goes on to its probes; edges at any other time are not taken.
(Where it stops with a fault, the stop is the model's, log entry 4; that a release of RESET already released, and an edge at another
time, change nothing is log entry 5; that either row may be the sixteenth edge is log entry 35.) -/
def Obligations.StrapWordLatched : Prop :=
  (∀ s : State, s.resetAsserted = true → exec .resetReleased s =
    .next (settle { s with resetAsserted := false, device := .preparing, prep := .strap [] })) ∧
  (∀ s : State, s.resetAsserted = false → exec .resetReleased s = .next s) ∧
  (∀ (bits : List Bool) (i : Nat), bits.length = 16 → (strapOf bits).getLsbD i = bits.getD i false) ∧
  ∀ (bit : Bool) (s : State),
    (∀ bits, s.resetAsserted = false → s.prep = .strap bits → bits.length < 15 →
      exec (.strapBitTaken bit) s = .next { s with prep := .strap (bits ++ [bit]) } ∧
      exec (.latchStrapWord bit) s = .fault .strapIncomplete) ∧
    (∀ bits, s.resetAsserted = false → s.prep = .strap bits → bits.length = 15 →
      exec (.latchStrapWord bit) s =
          .next (settle { s with strap := strapOf (bits ++ [bit]), prep := .probe 0 }) ∧
        exec (.strapBitTaken bit) s = exec (.latchStrapWord bit) s) ∧
    ((s.resetAsserted = true ∨ ∀ bits, s.prep ≠ .strap bits) →
      exec (.strapBitTaken bit) s = .next s ∧ exec (.latchStrapWord bit) s = .next s)

/-- The fields of the strap word. -/
def Obligations.StrapFields : Prop :=
  ∀ w : BitVec 16,
    bankCount w = (w.extractLsb' 0 2).toNat + 1 ∧ aFirst w = w.getLsbD 2 ∧
    cadence w = 2000 * 2 ^ (w.extractLsb' 4 2).toNat ∧
    (scrubMode w = .timed ↔ w.extractLsb' 8 2 = 0) ∧ (scrubMode w = .fallback ↔ w.extractLsb' 8 2 = 1) ∧
    (scrubMode w = .strobeOnly ↔ w.extractLsb' 8 2 = 2 ∨ w.extractLsb' 8 2 = 3)

/-- PREP_PROBE_COMPLETE and PREP_MARKER_READ_COMPLETE: the probe's outcome is the bank's state, and bank 0 OFFLINE faults the
part; the marker decides between the format of a blank archive, the load and FAULTED. -/
def Obligations.PreparationProbesAndMarker : Prop :=
  (∀ (b : Burst) (ending : ProbeEnd) (s : State), s.burst = some b → b.work = .prepProbe →
    let bank := b.slot / 16384
    ∃ t, exec (.prepProbeComplete ending) s = .next (settle t) ∧
      t.banks = s.banks.set bank (match ending with | .succeeded => .online | .failed => .offline) ∧
      (bank = 0 → ending = .failed → t.device = .faulted ∧ t.prep = .finished) ∧
      ((bank ≠ 0 ∨ ending = .succeeded) → t.device = s.device ∧
        t.prep = if bank + 1 < bankCount s.strap then .probe (bank + 1) else .marker)) ∧
  ∀ (b : Burst) (errors : List WordError) (s : State), s.burst = some b → b.work = .prepMarker → b.slot = 0 →
    (∀ e ∈ errors, wrongBits e.mask = 1 ∨ wrongBits e.mask = 2) →
    (∃ t, exec (.prepMarkerReadComplete .mediumFault) s = .next (settle t) ∧ t.device = .faulted) ∧
    ∃ t, exec (.prepMarkerReadComplete (.delivered errors)) s = .next (settle t) ∧
      ((∃ e ∈ errors, wrongBits e.mask = 2) → t.device = .faulted) ∧
      ((∀ e ∈ errors, wrongBits e.mask = 1) →
        (mediumRead s.medium 0 = .image (.marker .current) → t.prep = .load 1 ∧ t.device = s.device) ∧
        (mediumRead s.medium 0 = .image (.marker .other) → t.device = .faulted) ∧
        (mediumRead s.medium 0 = .words [] → t.prep = .format 1 ∧ t.device = s.device ∧ t.editions = [] ∧ t.objects = [] ∧
          t.curves = List.replicate 8 CurveSet.blank ∧ t.schedule = Schedule.blank ∧ t.year = 2000 ∧
          t.accounts = List.replicate 64 Account.blank ∧ t.journal = [] ∧ t.sequence = 0 ∧ t.billingYear = 2000))

/-- FORMAT_WRITE_COMPLETE and LOAD_READ_COMPLETE: groups in ascending order, the marker's slot last in a format, each format write
carrying the group as the on-chip tables hold it; a failed write, an uncorrectable read or a MEDIUM_FAULT faults the part; a
corrected read marks its group.  Each load read takes its group's records into the tables and leaves the others, and the last one
ends preparation: reconcile, the voiding of PROVISIONAL entries, and the damage list of the damaged objects in ascending number.
(That a group whose slot was never written, and so reads as zero words, loads nothing is the model's choice, log entry 11.) -/
def Obligations.FormatAndLoadProceed : Prop :=
  (∀ (b : Burst) (s : State), s.burst = some b → b.work = .prepFormat →
    (∃ t, exec (.formatWriteComplete .mediumFault) s = .next (settle t) ∧ t.device = .faulted) ∧
    ∃ t, exec (.formatWriteComplete .done) s = .next (settle t) ∧
      (MediumCanonical s → ∀ content, b.content = some content → mediumRead t.medium b.slot = content ∧
        ∀ n, n ≠ b.slot → mediumRead t.medium n = mediumRead s.medium n) ∧
      (0 < b.slot → t.device = s.device ∧ t.prep = if b.slot = lastGroup s then .format 0 else .format (b.slot + 1)) ∧
      (b.slot = 0 → t.prep = .finished ∧ (t.device = .faulted ∨ t.device = if s.powerWarn then .flushing else .ready))) ∧
  (∀ (g : Nat) (s : State), s.device = .preparing → s.burst = none → s.prep = .format g →
    ∃ t, prepStart s = some t ∧ t.burst = some ⟨.prepFormat, g, false, 0, some (groupImage s g)⟩ ∧ t.prep = .format g ∧
      t.medium = s.medium) ∧
  (∀ (b : Burst) (errors : List WordError) (s : State), s.burst = some b → b.work = .prepLoad →
    (∀ e ∈ errors, wrongBits e.mask = 1 ∨ wrongBits e.mask = 2) →
    (∃ t, exec (.loadReadComplete .mediumFault) s = .next (settle t) ∧ t.device = .faulted) ∧
    ((∃ e ∈ errors, wrongBits e.mask = 2) →
      ∃ t, exec (.loadReadComplete (.delivered errors)) s = .next (settle t) ∧ t.device = .faulted) ∧
    ((∀ e ∈ errors, wrongBits e.mask = 1) → b.slot ≠ lastGroup s →
      ∃ t, exec (.loadReadComplete (.delivered errors)) s = .next (settle t) ∧ t.prep = .load (b.slot + 1) ∧
        t.device = s.device ∧
        (errors ≠ [] → b.slot ≠ 1 → b.slot ∈ t.dirty) ∧ (errors ≠ [] → b.slot = 1 → t.billingPending = true) ∧
        (∀ i, mediumRead s.medium b.slot = .image (.billing i) →
          t.accounts = i.accounts ∧ t.journal = i.journal ∧ t.sequence = i.sequence ∧ t.billingYear = i.year) ∧
        (∀ i, mediumRead s.medium b.slot = .image (.settings i) →
          t.curves = i.curves ∧ t.schedule = i.schedule ∧ t.year = i.year) ∧
        (∀ es, mediumRead s.medium b.slot = .image (.editions es) → (es.map (·.position)).Nodup →
          (∀ e ∈ es, t.editions.find? (fun q => q.position == e.position) = some ⟨e, [], false⟩) ∧
          ∀ q, (∀ e ∈ es, e.position ≠ q.position) → (q ∈ t.editions ↔ q ∈ s.editions)) ∧
        (bankOffline s (b.slot / 16384) = false →
          (∀ os, mediumRead s.medium b.slot = .image (.objects os) → (os.map (·.number)).Nodup →
            (∀ o ∈ os, t.findObject o.number = some ⟨o, 0, false⟩) ∧
            ∀ n, (∀ o ∈ os, o.number ≠ n) → t.findObject n = s.findObject n) ∧
          (∀ ms, mediumRead s.medium b.slot = .image (.marks ms) → (ms.map (·.slot)).Nodup →
            Assoc.wf slotDefault s.slots = true →
            (∀ m ∈ ms, t.slot m.slot = { s.slot m.slot with
              state := if m.retired then .retired else (s.slot m.slot).state, damage := m.damage, count := m.count }) ∧
            ∀ n, (∀ m ∈ ms, m.slot ≠ n) → t.slot n = s.slot n) ∧
          (mediumRead s.medium b.slot = .words [] →
            t.editions = s.editions ∧ t.objects = s.objects ∧ t.slots = s.slots ∧ t.accounts = s.accounts))) ∧
    ((∀ e ∈ errors, wrongBits e.mask = 1) → b.slot = lastGroup s →
      let ended : State := { s with burst := none, arbiter := { s.arbiter with busy := false, deciding := s.arbiter.busy } }
      let loaded := loadGroup b.slot (mediumRead s.medium b.slot) (if b.retry then setBank (b.slot / 16384) .suspect ended else ended)
      exec (.loadReadComplete (.delivered errors)) s =
        .next (settle (endPreparation
          (if errors = [] then loaded else { loaded with dirty := Assoc.addNat b.slot loaded.dirty }))))) ∧
  ∀ s : State,
    (reconcile (reconcileYear s) = none → (endPreparation s).device = .faulted ∧ (endPreparation s).prep = .finished) ∧
    ∀ u, reconcile (reconcileYear s) = some u →
      let t := endPreparation s
      let damaged := u.objects.filter fun o => (firstDamaged u o).isSome
      t.device = (if u.powerWarn then .flushing else .ready) ∧ t.prep = .finished ∧ t.editions = u.editions ∧
        t.slots = u.slots ∧ t.pool = u.pool ∧ t.relocations = u.relocations ∧ t.accounts = u.accounts ∧
        t.journal = u.journal.map (fun e => if e.state = .provisional then
          { e with state := .void, grade := none, net := 0, discountClamped := false, minApplied := false } else e) ∧
        ((∃ e ∈ u.journal, e.state = .provisional) → t.billingPending = true) ∧
        t.damage = (damaged.take 128).map (fun o => ⟨o.number, o.key, o.kind, o.impairedCount, firstDamaged u o⟩) ∧
        (∀ o ∈ t.objects, o.withheld = true ↔ o.number ∈ (damaged.drop 128).map (·.number)) ∧
        t.overflow = decide (128 < damaged.length)

/-- Reconcile: whatever the loaded tables held, every tile position of every object afterwards names an ASSIGNED slot that names
it back, with the same written mark. -/
def Obligations.ReconcileMakesTilesOwned : Prop :=
  ∀ s t : State, (s.objects.map (·.number)).Nodup → Assoc.wf slotDefault s.slots = true → reconcile s = some t →
    TilesOwned t

/-- POWER_WARN asserted in READY enters FLUSHING, voids every PROVISIONAL entry with net 0, keeping its quote, and ends the
operation of each port as a CANCEL does, but for one that waits only for a billing flush; outside READY it changes the pin alone.
Released in HALTED it returns the part to READY; otherwise it changes the pin alone.  FLUSHING leads to HALTED, or to READY with
POWER_WARN released, once nothing is pending, dirty or in flight; while bank 0 is OFFLINE, once only waits for a billing flush are
in flight, and those end CANCELLED with their changes standing.
(That a flush burst in flight is waited for is log entry 20, that the end of a render, an order, a lock or a probe discards the data
records at the head of the input queue, as that of a store does, log entry 28, that every such end discards them at the assertion, log
entry 45, that the CANCELLED response precedes the notice, log entry 42, and that a RESTART that has not queued its response keeps
FLUSHING from ending, log entry 44.) -/
def Obligations.PowerWarning : Prop :=
  (∀ s : State, s.resetAsserted = false →
    (s.powerWarn = false → s.device = .ready →
      ∃ t, exec .powerWarnAsserted s = .next (settle t) ∧ t.device = .flushing ∧ t.powerWarn = true ∧
        t.upkeep.timerRunning = false ∧ t.accounts = s.accounts ∧ t.sequence = s.sequence ∧ t.medium = s.medium ∧
        t.journal.length = s.journal.length ∧ (∀ e ∈ t.journal, e.state ≠ .provisional) ∧
        ((∃ e ∈ s.journal, e.state = .provisional) → t.billingPending = true) ∧
        (∀ (i : Nat) (e : JournalEntry), s.journal[i]? = some e →
          t.journal[i]? = some (if e.state = .provisional then
            { e with state := .void, grade := none, net := 0, discountClamped := false, minApplied := false } else e)) ∧
        (s.burst = none → t.upkeep.buffer = none) ∧
        ∀ p : Port,
          let kept : Prop := (t.port p).op = (s.port p).op ∧ (t.port p).inq = (s.port p).inq
          let becomes (o : Op) : Prop :=
            (t.port p).op = o ∧ (t.port p).inq = (s.port p).inq.dropWhile fun r => headerIsData r.header
          ((s.port p).restart ≠ .none → kept) ∧
          ((s.port p).restart = .none →
            ((s.port p).op = .idle → kept) ∧
            (∀ r k st, (s.port p).op = .respond r k st → kept) ∧
            (∀ r w, (s.port p).op = .flushWait r w → kept) ∧
            (∀ tag bank, (s.port p).op = .probe tag bank true → kept) ∧
            (∀ tag bank, (s.port p).op = .probe tag bank false →
              becomes (.respond ⟨tag, .cancelled, none, [], []⟩ none false)) ∧
            (∀ tag key, (s.port p).op = .lock tag key →
              becomes (.respond ⟨tag, .cancelled, none, [], []⟩ none false) ∧ lockOf t key = none) ∧
            (∀ c, (s.port p).op = .store c → c.ending ≠ none → kept) ∧
            (∀ c, (s.port p).op = .store c → c.ending = none →
              becomes (.store { c with ending := some .cancelled, wordsTaken := 0, packPhase := 0,
                                       bandPhase := if c.bandPhase = .fill then .write else c.bandPhase })) ∧
            (∀ c, (s.port p).op = .render c → c.cancelled = false →
              (portInBurst p s = false → (t.port p).snapshot = none ∧
                becomes (.respond (c.response .cancelled (min (4 * c.wordsPlaced) c.count) (snapshotSet s p))
                  (some c.key) false)) ∧
              (portInBurst p s = true → becomes (.render { c with cancelled := true }))) ∧
            (∀ o w, (s.port p).op = .order o → o.stage = .finalFlush w → kept) ∧
            ∀ o e, (s.port p).op = .order o → s.findEntry o.sequence = some e → e.state = .provisional →
              let void : JournalEntry :=
                { e with state := .void, grade := none, net := 0, discountClamped := false, minApplied := false }
              let ended : Op := .respond ⟨o.render.tag, .cancelled, none, [], [e.sequence, entryFlagsWord void,
                digitsWord 8 0, numberWord (min (4 * o.render.wordsPlaced) o.render.count)]⟩ (some o.render.key) false
              (∀ w, o.stage = .entryFlush w → becomes ended) ∧
              (o.stage = .rendering → o.render.cancelled = false →
                (portInBurst p s = false → becomes ended) ∧
                (portInBurst p s = true → becomes (.order { o with render := { o.render with cancelled := true } }))))) ∧
    (s.powerWarn = false → s.device ≠ .ready → exec .powerWarnAsserted s = .next { s with powerWarn := true }) ∧
    (s.powerWarn = true → s.device = .halted →
      ∃ t, exec .powerWarnReleased s = .next (settle t) ∧ t.device = .ready ∧ t.powerWarn = false ∧
        t.upkeep.timerRunning = (scrubMode s.strap != .strobeOnly) ∧ t.upkeep.timer = 0 ∧ t.locks = s.locks ∧
        t.journal = s.journal ∧ t.accounts = s.accounts ∧ t.objects = s.objects ∧ t.editions = s.editions) ∧
    (s.powerWarn = true → s.device ≠ .halted → exec .powerWarnReleased s = .next { s with powerWarn := false })) ∧
  ∀ s : State, s.device = .flushing →
    let follows : DeviceState := if s.powerWarn then .halted else .ready
    let idle (p : Port) : Prop := (s.port p).restart = .none ∧ (s.port p).op = .idle
    let waits (p : Port) : Prop := (s.port p).restart = .none ∧ ((s.port p).op = .idle ∨
      (∃ r w, (s.port p).op = .flushWait r w) ∨ ∃ o w, (s.port p).op = .order o ∧ o.stage = .finalFlush w)
    ((∃ b, s.burst = some b ∧ (b.work = .catalogueFlush ∨ b.work = .billingFlush)) → flushComplete s = none) ∧
    ((∀ b, s.burst = some b → b.work ≠ .catalogueFlush ∧ b.work ≠ .billingFlush) →
      (bankOffline s 0 = false →
        ((s.billingPending = true ∨ s.dirty ≠ [] ∨ ∃ p, ¬ idle p) → flushComplete s = none) ∧
        (s.billingPending = false → s.dirty = [] → (∀ p, idle p) →
          ∃ t, flushComplete s = some t ∧ t = { s with device := follows, upkeep := t.upkeep, portA := t.portA, portB := t.portB } ∧
            ∀ p, (t.port p).op = .idle ∧ ((s.port p).outq.length < 16 → (s.port p).deviceMark = false →
              (t.port p).outq = (s.port p).outq ++ [.notice (.deviceState follows false)]))) ∧
      (bankOffline s 0 = true →
        ((∃ p, ¬ waits p) → flushComplete s = none) ∧
        ((∀ p, waits p) →
          ∃ t, flushComplete s = some t ∧ t.device = follows ∧ t.billingPending = s.billingPending ∧ t.dirty = s.dirty ∧
            t.journal = s.journal ∧ t.accounts = s.accounts ∧ t.medium = s.medium ∧ t.banks = s.banks ∧
            ∀ p : Port,
              let answered (r : Response) : Prop := if (s.port p).outq.length < 16 then
                  (t.port p).op = .idle ∧ (t.port p).outq[(s.port p).outq.length]? = some (.response r)
                else ∃ k, (t.port p).op = .respond r k false
              (∀ r w, (s.port p).op = .flushWait r w → answered { r with status := .cancelled }) ∧
              ∀ o w e, (s.port p).op = .order o → o.stage = .finalFlush w → s.findEntry o.sequence = some e →
                answered ⟨o.render.tag, .cancelled, none, [], [e.sequence, entryFlagsWord e, digitsWord 8 e.net,
                  numberWord (min (4 * o.render.wordsPlaced) o.render.count)]⟩)))
end

