-- ==== Sys2Proof/Laws/Assoc.lean ====
section
/-!
SUPPORT. The laws of sparse tables: a write keeps the canonical form, reads back at its number and leaves every other number; and
of the sorted lists of dirty groups.
-/

namespace Sys2Proof.Assoc

variable {α : Type} [DecidableEq α] {d : Nat → α}

/-- A list whose numbers are above `n` is one whose numbers are above any smaller number. -/
theorem wfAbove_mono {l : List (Nat × α)} {m n : Nat} (h : wfAbove d (some n) l = true) (hmn : m ≤ n) :
    wfAbove d (some m) l = true := by
  cases l with
  | nil => rfl
  | cons p rest =>
    simp only [wfAbove, Bool.and_eq_true, decide_eq_true_eq] at h ⊢
    exact ⟨⟨by omega, h.1.2⟩, h.2⟩

/-- Nothing is listed at or below the bound of a canonical list. -/
theorem get_of_wfAbove {l : List (Nat × α)} {n k : Nat} (h : wfAbove d (some n) l = true) (hk : k ≤ n) : get d l k = d k := by
  induction l generalizing n with
  | nil => rfl
  | cons p rest ih =>
    simp only [wfAbove, Bool.and_eq_true, decide_eq_true_eq] at h
    have : k ≠ p.1 := by omega
    simp only [get, this, if_false]
    exact ih h.2 (by omega)

/-- A write keeps the bound below a canonical list. -/
theorem wfAbove_put {l : List (Nat × α)} {n k : Nat} (v : α) (h : wfAbove d (some n) l = true) (hk : n < k) :
    wfAbove d (some n) (put d l k v) = true := by
  induction l generalizing n with
  | nil => by_cases hv : v = d k <;> simp [put, wfAbove, hv, hk]
  | cons p rest ih =>
    obtain ⟨j, w⟩ := p
    simp only [wfAbove, Bool.and_eq_true, decide_eq_true_eq] at h
    obtain ⟨⟨hnj, hw⟩, hrest⟩ := h
    rcases Nat.lt_trichotomy k j with hlt | rfl | hgt
    · by_cases hv : v = d k <;> simp [put, wfAbove, hlt, hv, hw, hrest, hk, hnj]
    · by_cases hv : v = d k
      · simpa [put, hv] using wfAbove_mono hrest (by omega)
      · simp [put, wfAbove, hv, hrest, hk]
    · have hne : k ≠ j := by omega
      have hnl : ¬ k < j := by omega
      simp [put, wfAbove, hnl, hne, hnj, hw, ih hrest hgt]

/-- A write keeps the canonical form. -/
theorem wf_put {l : List (Nat × α)} (k : Nat) (v : α) (h : wf d l = true) : wf d (put d l k v) = true := by
  cases l with
  | nil => by_cases hv : v = d k <;> simp [put, wf, wfAbove, hv]
  | cons p rest =>
    obtain ⟨j, w⟩ := p
    simp only [wf, wfAbove, Bool.and_eq_true, decide_eq_true_eq, true_and] at h
    obtain ⟨hw, hrest⟩ := h
    rcases Nat.lt_trichotomy k j with hlt | rfl | hgt
    · by_cases hv : v = d k <;> simp [put, wf, wfAbove, hlt, hv, hw, hrest]
    · by_cases hv : v = d k
      · cases rest with
        | nil => simp [put, hv, wf, wfAbove]
        | cons q tail =>
          simp only [wfAbove, Bool.and_eq_true, decide_eq_true_eq] at hrest
          simp [put, hv, wf, wfAbove, hrest.1.2, hrest.2]
      · simp [put, wf, wfAbove, hv, hrest]
    · have hne : k ≠ j := by omega
      have hnl : ¬ k < j := by omega
      simp [put, wf, wfAbove, hnl, hne, hw, wfAbove_put v hrest hgt]

/-- A write leaves what every other number reads as, in a list of any form. -/
theorem get_put_other {l : List (Nat × α)} {j k : Nat} (v : α) (h : j ≠ k) : get d (put d l k v) j = get d l j := by
  induction l with
  | nil => by_cases hv : v = d k <;> simp [put, get, hv, h]
  | cons p rest ih =>
    obtain ⟨i, w⟩ := p
    simp only [put]
    split
    · split <;> simp [get, h]
    · split
      · next hki => subst hki; split <;> simp [get, h]
      · simp [get, ih]

/-- What is written reads back, in a list of any form, if it is not what an unlisted number reads as. -/
theorem get_put_new {l : List (Nat × α)} {k : Nat} {v : α} (h : v ≠ d k) : get d (put d l k v) k = v := by
  induction l with
  | nil => simp [put, get, h]
  | cons p rest ih =>
    obtain ⟨i, w⟩ := p
    rcases Nat.lt_trichotomy k i with hlt | rfl | hgt
    · simp [put, hlt, h, get]
    · simp [put, h, get]
    · have hne : k ≠ i := by omega
      have hnl : ¬ k < i := by omega
      simp [put, hnl, hne, get, ih]

/-- What is written reads back, in a canonical list. -/
theorem get_put_same {l : List (Nat × α)} (k : Nat) (v : α) (h : wf d l = true) : get d (put d l k v) k = v := by
  by_cases hv : v = d k
  · subst hv
    cases l with
    | nil => simp [put, get]
    | cons p rest =>
      obtain ⟨j, w⟩ := p
      simp only [wf, wfAbove, Bool.and_eq_true, true_and] at h
      obtain ⟨-, hrest⟩ := h
      revert hrest
      induction rest generalizing j w with
      | nil =>
        intro _
        rcases Nat.lt_trichotomy k j with hlt | rfl | hgt
        · simp [put, hlt, get, Nat.ne_of_lt hlt]
        · simp [put, get]
        · have hne : k ≠ j := by omega
          have hnl : ¬ k < j := by omega
          simp [put, hnl, hne, get]
      | cons q tail ih =>
        intro hrest
        rcases Nat.lt_trichotomy k j with hlt | rfl | hgt
        · simp only [put, hlt, if_true, get, Nat.ne_of_lt hlt, if_false]
          simpa [get] using get_of_wfAbove hrest (Nat.le_of_lt hlt)
        · simpa [put] using get_of_wfAbove hrest (Nat.le_refl k)
        · have hne : k ≠ j := by omega
          have hnl : ¬ k < j := by omega
          rw [put, if_neg hnl, if_neg hne, get, if_neg hne]
          simp only [wfAbove, Bool.and_eq_true] at hrest
          exact ih q.1 q.2 hrest.2
  · exact get_put_new hv

/-- The members of a sorted list of numbers after one has been added. -/
theorem mem_addNat {m n : Nat} {l : List Nat} : m ∈ addNat n l ↔ m = n ∨ m ∈ l := by
  induction l with
  | nil => simp [addNat]
  | cons i rest ih =>
    simp only [addNat]
    split
    · simp
    · split
      · next h => subst h; simp
      · simp only [List.mem_cons, ih]; tauto

/-- The members of a list after one has been inserted by rank. -/
theorem mem_insertBy {β : Type} {rank : β → Nat} {x y : β} {l : List β} : y ∈ insertBy rank x l ↔ y = x ∨ y ∈ l := by
  induction l with
  | nil => simp [insertBy]
  | cons z rest ih =>
    simp only [insertBy]
    split
    · simp
    · simp only [List.mem_cons, ih]; tauto

/-- Sorting keeps the members. -/
theorem mem_sortBy {β : Type} {rank : β → Nat} {y : β} {l : List β} : y ∈ sortBy rank l ↔ y ∈ l := by
  induction l with
  | nil => simp [sortBy]
  | cons x rest ih => simp [sortBy, mem_insertBy, ih]

end Sys2Proof.Assoc
end

