-- ==== Sys2Proof/Laws/State.lean ====
section
/-!
SUPPORT. One lemma for each field under each update of the state, so that no proof unfolds an update: a field that the update does
not touch is as it was, and the field it writes is what it wrote.
-/

namespace Sys2Proof.Machine

open Sys2Proof

variable (s : State)

/-! ## setPort -/

@[simp] theorem setPort_pending (p : Port) (e : PortEngine) : (s.setPort p e).pending = s.pending := by cases p <;> rfl
@[simp] theorem setPort_resetAsserted (p : Port) (e : PortEngine) : (s.setPort p e).resetAsserted = s.resetAsserted := by cases p <;> rfl
@[simp] theorem setPort_powerWarn (p : Port) (e : PortEngine) : (s.setPort p e).powerWarn = s.powerWarn := by cases p <;> rfl
@[simp] theorem setPort_device (p : Port) (e : PortEngine) : (s.setPort p e).device = s.device := by cases p <;> rfl
@[simp] theorem setPort_prep (p : Port) (e : PortEngine) : (s.setPort p e).prep = s.prep := by cases p <;> rfl
@[simp] theorem setPort_strap (p : Port) (e : PortEngine) : (s.setPort p e).strap = s.strap := by cases p <;> rfl
@[simp] theorem setPort_medium (p : Port) (e : PortEngine) : (s.setPort p e).medium = s.medium := by cases p <;> rfl
@[simp] theorem setPort_banks (p : Port) (e : PortEngine) : (s.setPort p e).banks = s.banks := by cases p <;> rfl
@[simp] theorem setPort_burst (p : Port) (e : PortEngine) : (s.setPort p e).burst = s.burst := by cases p <;> rfl
@[simp] theorem setPort_editions (p : Port) (e : PortEngine) : (s.setPort p e).editions = s.editions := by cases p <;> rfl
@[simp] theorem setPort_objects (p : Port) (e : PortEngine) : (s.setPort p e).objects = s.objects := by cases p <;> rfl
@[simp] theorem setPort_dirty (p : Port) (e : PortEngine) : (s.setPort p e).dirty = s.dirty := by cases p <;> rfl
@[simp] theorem setPort_slots (p : Port) (e : PortEngine) : (s.setPort p e).slots = s.slots := by cases p <;> rfl
@[simp] theorem setPort_pool (p : Port) (e : PortEngine) : (s.setPort p e).pool = s.pool := by cases p <;> rfl
@[simp] theorem setPort_relocations (p : Port) (e : PortEngine) : (s.setPort p e).relocations = s.relocations := by cases p <;> rfl
@[simp] theorem setPort_arbiter (p : Port) (e : PortEngine) : (s.setPort p e).arbiter = s.arbiter := by cases p <;> rfl
@[simp] theorem setPort_upkeep (p : Port) (e : PortEngine) : (s.setPort p e).upkeep = s.upkeep := by cases p <;> rfl
@[simp] theorem setPort_locks (p : Port) (e : PortEngine) : (s.setPort p e).locks = s.locks := by cases p <;> rfl
@[simp] theorem setPort_damage (p : Port) (e : PortEngine) : (s.setPort p e).damage = s.damage := by cases p <;> rfl
@[simp] theorem setPort_overflow (p : Port) (e : PortEngine) : (s.setPort p e).overflow = s.overflow := by cases p <;> rfl
@[simp] theorem setPort_curves (p : Port) (e : PortEngine) : (s.setPort p e).curves = s.curves := by cases p <;> rfl
@[simp] theorem setPort_schedule (p : Port) (e : PortEngine) : (s.setPort p e).schedule = s.schedule := by cases p <;> rfl
@[simp] theorem setPort_year (p : Port) (e : PortEngine) : (s.setPort p e).year = s.year := by cases p <;> rfl
@[simp] theorem setPort_accounts (p : Port) (e : PortEngine) : (s.setPort p e).accounts = s.accounts := by cases p <;> rfl
@[simp] theorem setPort_journal (p : Port) (e : PortEngine) : (s.setPort p e).journal = s.journal := by cases p <;> rfl
@[simp] theorem setPort_sequence (p : Port) (e : PortEngine) : (s.setPort p e).sequence = s.sequence := by cases p <;> rfl
@[simp] theorem setPort_billingYear (p : Port) (e : PortEngine) : (s.setPort p e).billingYear = s.billingYear := by cases p <;> rfl
@[simp] theorem setPort_billingPending (p : Port) (e : PortEngine) : (s.setPort p e).billingPending = s.billingPending := by cases p <;> rfl
@[simp] theorem setPort_freeCount (p : Port) (e : PortEngine) : (s.setPort p e).freeCount = s.freeCount := by cases p <;> rfl

/-! ## modPort -/

@[simp] theorem modPort_pending (p : Port) (f : PortEngine → PortEngine) : (s.modPort p f).pending = s.pending := by cases p <;> rfl
@[simp] theorem modPort_resetAsserted (p : Port) (f : PortEngine → PortEngine) : (s.modPort p f).resetAsserted = s.resetAsserted := by cases p <;> rfl
@[simp] theorem modPort_powerWarn (p : Port) (f : PortEngine → PortEngine) : (s.modPort p f).powerWarn = s.powerWarn := by cases p <;> rfl
@[simp] theorem modPort_device (p : Port) (f : PortEngine → PortEngine) : (s.modPort p f).device = s.device := by cases p <;> rfl
@[simp] theorem modPort_prep (p : Port) (f : PortEngine → PortEngine) : (s.modPort p f).prep = s.prep := by cases p <;> rfl
@[simp] theorem modPort_strap (p : Port) (f : PortEngine → PortEngine) : (s.modPort p f).strap = s.strap := by cases p <;> rfl
@[simp] theorem modPort_medium (p : Port) (f : PortEngine → PortEngine) : (s.modPort p f).medium = s.medium := by cases p <;> rfl
@[simp] theorem modPort_banks (p : Port) (f : PortEngine → PortEngine) : (s.modPort p f).banks = s.banks := by cases p <;> rfl
@[simp] theorem modPort_burst (p : Port) (f : PortEngine → PortEngine) : (s.modPort p f).burst = s.burst := by cases p <;> rfl
@[simp] theorem modPort_editions (p : Port) (f : PortEngine → PortEngine) : (s.modPort p f).editions = s.editions := by cases p <;> rfl
@[simp] theorem modPort_objects (p : Port) (f : PortEngine → PortEngine) : (s.modPort p f).objects = s.objects := by cases p <;> rfl
@[simp] theorem modPort_dirty (p : Port) (f : PortEngine → PortEngine) : (s.modPort p f).dirty = s.dirty := by cases p <;> rfl
@[simp] theorem modPort_slots (p : Port) (f : PortEngine → PortEngine) : (s.modPort p f).slots = s.slots := by cases p <;> rfl
@[simp] theorem modPort_pool (p : Port) (f : PortEngine → PortEngine) : (s.modPort p f).pool = s.pool := by cases p <;> rfl
@[simp] theorem modPort_relocations (p : Port) (f : PortEngine → PortEngine) : (s.modPort p f).relocations = s.relocations := by cases p <;> rfl
@[simp] theorem modPort_arbiter (p : Port) (f : PortEngine → PortEngine) : (s.modPort p f).arbiter = s.arbiter := by cases p <;> rfl
@[simp] theorem modPort_upkeep (p : Port) (f : PortEngine → PortEngine) : (s.modPort p f).upkeep = s.upkeep := by cases p <;> rfl
@[simp] theorem modPort_locks (p : Port) (f : PortEngine → PortEngine) : (s.modPort p f).locks = s.locks := by cases p <;> rfl
@[simp] theorem modPort_damage (p : Port) (f : PortEngine → PortEngine) : (s.modPort p f).damage = s.damage := by cases p <;> rfl
@[simp] theorem modPort_overflow (p : Port) (f : PortEngine → PortEngine) : (s.modPort p f).overflow = s.overflow := by cases p <;> rfl
@[simp] theorem modPort_curves (p : Port) (f : PortEngine → PortEngine) : (s.modPort p f).curves = s.curves := by cases p <;> rfl
@[simp] theorem modPort_schedule (p : Port) (f : PortEngine → PortEngine) : (s.modPort p f).schedule = s.schedule := by cases p <;> rfl
@[simp] theorem modPort_year (p : Port) (f : PortEngine → PortEngine) : (s.modPort p f).year = s.year := by cases p <;> rfl
@[simp] theorem modPort_accounts (p : Port) (f : PortEngine → PortEngine) : (s.modPort p f).accounts = s.accounts := by cases p <;> rfl
@[simp] theorem modPort_journal (p : Port) (f : PortEngine → PortEngine) : (s.modPort p f).journal = s.journal := by cases p <;> rfl
@[simp] theorem modPort_sequence (p : Port) (f : PortEngine → PortEngine) : (s.modPort p f).sequence = s.sequence := by cases p <;> rfl
@[simp] theorem modPort_billingYear (p : Port) (f : PortEngine → PortEngine) : (s.modPort p f).billingYear = s.billingYear := by cases p <;> rfl
@[simp] theorem modPort_billingPending (p : Port) (f : PortEngine → PortEngine) : (s.modPort p f).billingPending = s.billingPending := by cases p <;> rfl
@[simp] theorem modPort_freeCount (p : Port) (f : PortEngine → PortEngine) : (s.modPort p f).freeCount = s.freeCount := by cases p <;> rfl

/-! ## setOp -/

@[simp] theorem setOp_pending (p : Port) (o : Op) : (s.setOp p o).pending = s.pending := by cases p <;> rfl
@[simp] theorem setOp_resetAsserted (p : Port) (o : Op) : (s.setOp p o).resetAsserted = s.resetAsserted := by cases p <;> rfl
@[simp] theorem setOp_powerWarn (p : Port) (o : Op) : (s.setOp p o).powerWarn = s.powerWarn := by cases p <;> rfl
@[simp] theorem setOp_device (p : Port) (o : Op) : (s.setOp p o).device = s.device := by cases p <;> rfl
@[simp] theorem setOp_prep (p : Port) (o : Op) : (s.setOp p o).prep = s.prep := by cases p <;> rfl
@[simp] theorem setOp_strap (p : Port) (o : Op) : (s.setOp p o).strap = s.strap := by cases p <;> rfl
@[simp] theorem setOp_medium (p : Port) (o : Op) : (s.setOp p o).medium = s.medium := by cases p <;> rfl
@[simp] theorem setOp_banks (p : Port) (o : Op) : (s.setOp p o).banks = s.banks := by cases p <;> rfl
@[simp] theorem setOp_burst (p : Port) (o : Op) : (s.setOp p o).burst = s.burst := by cases p <;> rfl
@[simp] theorem setOp_editions (p : Port) (o : Op) : (s.setOp p o).editions = s.editions := by cases p <;> rfl
@[simp] theorem setOp_objects (p : Port) (o : Op) : (s.setOp p o).objects = s.objects := by cases p <;> rfl
@[simp] theorem setOp_dirty (p : Port) (o : Op) : (s.setOp p o).dirty = s.dirty := by cases p <;> rfl
@[simp] theorem setOp_slots (p : Port) (o : Op) : (s.setOp p o).slots = s.slots := by cases p <;> rfl
@[simp] theorem setOp_pool (p : Port) (o : Op) : (s.setOp p o).pool = s.pool := by cases p <;> rfl
@[simp] theorem setOp_relocations (p : Port) (o : Op) : (s.setOp p o).relocations = s.relocations := by cases p <;> rfl
@[simp] theorem setOp_arbiter (p : Port) (o : Op) : (s.setOp p o).arbiter = s.arbiter := by cases p <;> rfl
@[simp] theorem setOp_upkeep (p : Port) (o : Op) : (s.setOp p o).upkeep = s.upkeep := by cases p <;> rfl
@[simp] theorem setOp_locks (p : Port) (o : Op) : (s.setOp p o).locks = s.locks := by cases p <;> rfl
@[simp] theorem setOp_damage (p : Port) (o : Op) : (s.setOp p o).damage = s.damage := by cases p <;> rfl
@[simp] theorem setOp_overflow (p : Port) (o : Op) : (s.setOp p o).overflow = s.overflow := by cases p <;> rfl
@[simp] theorem setOp_curves (p : Port) (o : Op) : (s.setOp p o).curves = s.curves := by cases p <;> rfl
@[simp] theorem setOp_schedule (p : Port) (o : Op) : (s.setOp p o).schedule = s.schedule := by cases p <;> rfl
@[simp] theorem setOp_year (p : Port) (o : Op) : (s.setOp p o).year = s.year := by cases p <;> rfl
@[simp] theorem setOp_accounts (p : Port) (o : Op) : (s.setOp p o).accounts = s.accounts := by cases p <;> rfl
@[simp] theorem setOp_journal (p : Port) (o : Op) : (s.setOp p o).journal = s.journal := by cases p <;> rfl
@[simp] theorem setOp_sequence (p : Port) (o : Op) : (s.setOp p o).sequence = s.sequence := by cases p <;> rfl
@[simp] theorem setOp_billingYear (p : Port) (o : Op) : (s.setOp p o).billingYear = s.billingYear := by cases p <;> rfl
@[simp] theorem setOp_billingPending (p : Port) (o : Op) : (s.setOp p o).billingPending = s.billingPending := by cases p <;> rfl
@[simp] theorem setOp_freeCount (p : Port) (o : Op) : (s.setOp p o).freeCount = s.freeCount := by cases p <;> rfl

/-! ## respond -/

@[simp] theorem respond_pending (p : Port) (r : Response) (k : Option EditionKey) (b : Bool) : (respond p r k b s).pending = s.pending := by cases p <;> rfl
@[simp] theorem respond_resetAsserted (p : Port) (r : Response) (k : Option EditionKey) (b : Bool) : (respond p r k b s).resetAsserted = s.resetAsserted := by cases p <;> rfl
@[simp] theorem respond_powerWarn (p : Port) (r : Response) (k : Option EditionKey) (b : Bool) : (respond p r k b s).powerWarn = s.powerWarn := by cases p <;> rfl
@[simp] theorem respond_device (p : Port) (r : Response) (k : Option EditionKey) (b : Bool) : (respond p r k b s).device = s.device := by cases p <;> rfl
@[simp] theorem respond_prep (p : Port) (r : Response) (k : Option EditionKey) (b : Bool) : (respond p r k b s).prep = s.prep := by cases p <;> rfl
@[simp] theorem respond_strap (p : Port) (r : Response) (k : Option EditionKey) (b : Bool) : (respond p r k b s).strap = s.strap := by cases p <;> rfl
@[simp] theorem respond_medium (p : Port) (r : Response) (k : Option EditionKey) (b : Bool) : (respond p r k b s).medium = s.medium := by cases p <;> rfl
@[simp] theorem respond_banks (p : Port) (r : Response) (k : Option EditionKey) (b : Bool) : (respond p r k b s).banks = s.banks := by cases p <;> rfl
@[simp] theorem respond_burst (p : Port) (r : Response) (k : Option EditionKey) (b : Bool) : (respond p r k b s).burst = s.burst := by cases p <;> rfl
@[simp] theorem respond_editions (p : Port) (r : Response) (k : Option EditionKey) (b : Bool) : (respond p r k b s).editions = s.editions := by cases p <;> rfl
@[simp] theorem respond_objects (p : Port) (r : Response) (k : Option EditionKey) (b : Bool) : (respond p r k b s).objects = s.objects := by cases p <;> rfl
@[simp] theorem respond_dirty (p : Port) (r : Response) (k : Option EditionKey) (b : Bool) : (respond p r k b s).dirty = s.dirty := by cases p <;> rfl
@[simp] theorem respond_slots (p : Port) (r : Response) (k : Option EditionKey) (b : Bool) : (respond p r k b s).slots = s.slots := by cases p <;> rfl
@[simp] theorem respond_pool (p : Port) (r : Response) (k : Option EditionKey) (b : Bool) : (respond p r k b s).pool = s.pool := by cases p <;> rfl
@[simp] theorem respond_relocations (p : Port) (r : Response) (k : Option EditionKey) (b : Bool) : (respond p r k b s).relocations = s.relocations := by cases p <;> rfl
@[simp] theorem respond_arbiter (p : Port) (r : Response) (k : Option EditionKey) (b : Bool) : (respond p r k b s).arbiter = s.arbiter := by cases p <;> rfl
@[simp] theorem respond_upkeep (p : Port) (r : Response) (k : Option EditionKey) (b : Bool) : (respond p r k b s).upkeep = s.upkeep := by cases p <;> rfl
@[simp] theorem respond_locks (p : Port) (r : Response) (k : Option EditionKey) (b : Bool) : (respond p r k b s).locks = s.locks := by cases p <;> rfl
@[simp] theorem respond_damage (p : Port) (r : Response) (k : Option EditionKey) (b : Bool) : (respond p r k b s).damage = s.damage := by cases p <;> rfl
@[simp] theorem respond_overflow (p : Port) (r : Response) (k : Option EditionKey) (b : Bool) : (respond p r k b s).overflow = s.overflow := by cases p <;> rfl
@[simp] theorem respond_curves (p : Port) (r : Response) (k : Option EditionKey) (b : Bool) : (respond p r k b s).curves = s.curves := by cases p <;> rfl
@[simp] theorem respond_schedule (p : Port) (r : Response) (k : Option EditionKey) (b : Bool) : (respond p r k b s).schedule = s.schedule := by cases p <;> rfl
@[simp] theorem respond_year (p : Port) (r : Response) (k : Option EditionKey) (b : Bool) : (respond p r k b s).year = s.year := by cases p <;> rfl
@[simp] theorem respond_accounts (p : Port) (r : Response) (k : Option EditionKey) (b : Bool) : (respond p r k b s).accounts = s.accounts := by cases p <;> rfl
@[simp] theorem respond_journal (p : Port) (r : Response) (k : Option EditionKey) (b : Bool) : (respond p r k b s).journal = s.journal := by cases p <;> rfl
@[simp] theorem respond_sequence (p : Port) (r : Response) (k : Option EditionKey) (b : Bool) : (respond p r k b s).sequence = s.sequence := by cases p <;> rfl
@[simp] theorem respond_billingYear (p : Port) (r : Response) (k : Option EditionKey) (b : Bool) : (respond p r k b s).billingYear = s.billingYear := by cases p <;> rfl
@[simp] theorem respond_billingPending (p : Port) (r : Response) (k : Option EditionKey) (b : Bool) : (respond p r k b s).billingPending = s.billingPending := by cases p <;> rfl
@[simp] theorem respond_freeCount (p : Port) (r : Response) (k : Option EditionKey) (b : Bool) : (respond p r k b s).freeCount = s.freeCount := by cases p <;> rfl

/-! ## pushOut -/

@[simp] theorem pushOut_pending (p : Port) (r : OutRecord) : (pushOut p r s).pending = s.pending := by cases p <;> rfl
@[simp] theorem pushOut_resetAsserted (p : Port) (r : OutRecord) : (pushOut p r s).resetAsserted = s.resetAsserted := by cases p <;> rfl
@[simp] theorem pushOut_powerWarn (p : Port) (r : OutRecord) : (pushOut p r s).powerWarn = s.powerWarn := by cases p <;> rfl
@[simp] theorem pushOut_device (p : Port) (r : OutRecord) : (pushOut p r s).device = s.device := by cases p <;> rfl
@[simp] theorem pushOut_prep (p : Port) (r : OutRecord) : (pushOut p r s).prep = s.prep := by cases p <;> rfl
@[simp] theorem pushOut_strap (p : Port) (r : OutRecord) : (pushOut p r s).strap = s.strap := by cases p <;> rfl
@[simp] theorem pushOut_medium (p : Port) (r : OutRecord) : (pushOut p r s).medium = s.medium := by cases p <;> rfl
@[simp] theorem pushOut_banks (p : Port) (r : OutRecord) : (pushOut p r s).banks = s.banks := by cases p <;> rfl
@[simp] theorem pushOut_burst (p : Port) (r : OutRecord) : (pushOut p r s).burst = s.burst := by cases p <;> rfl
@[simp] theorem pushOut_editions (p : Port) (r : OutRecord) : (pushOut p r s).editions = s.editions := by cases p <;> rfl
@[simp] theorem pushOut_objects (p : Port) (r : OutRecord) : (pushOut p r s).objects = s.objects := by cases p <;> rfl
@[simp] theorem pushOut_dirty (p : Port) (r : OutRecord) : (pushOut p r s).dirty = s.dirty := by cases p <;> rfl
@[simp] theorem pushOut_slots (p : Port) (r : OutRecord) : (pushOut p r s).slots = s.slots := by cases p <;> rfl
@[simp] theorem pushOut_pool (p : Port) (r : OutRecord) : (pushOut p r s).pool = s.pool := by cases p <;> rfl
@[simp] theorem pushOut_relocations (p : Port) (r : OutRecord) : (pushOut p r s).relocations = s.relocations := by cases p <;> rfl
@[simp] theorem pushOut_arbiter (p : Port) (r : OutRecord) : (pushOut p r s).arbiter = s.arbiter := by cases p <;> rfl
@[simp] theorem pushOut_upkeep (p : Port) (r : OutRecord) : (pushOut p r s).upkeep = s.upkeep := by cases p <;> rfl
@[simp] theorem pushOut_locks (p : Port) (r : OutRecord) : (pushOut p r s).locks = s.locks := by cases p <;> rfl
@[simp] theorem pushOut_damage (p : Port) (r : OutRecord) : (pushOut p r s).damage = s.damage := by cases p <;> rfl
@[simp] theorem pushOut_overflow (p : Port) (r : OutRecord) : (pushOut p r s).overflow = s.overflow := by cases p <;> rfl
@[simp] theorem pushOut_curves (p : Port) (r : OutRecord) : (pushOut p r s).curves = s.curves := by cases p <;> rfl
@[simp] theorem pushOut_schedule (p : Port) (r : OutRecord) : (pushOut p r s).schedule = s.schedule := by cases p <;> rfl
@[simp] theorem pushOut_year (p : Port) (r : OutRecord) : (pushOut p r s).year = s.year := by cases p <;> rfl
@[simp] theorem pushOut_accounts (p : Port) (r : OutRecord) : (pushOut p r s).accounts = s.accounts := by cases p <;> rfl
@[simp] theorem pushOut_journal (p : Port) (r : OutRecord) : (pushOut p r s).journal = s.journal := by cases p <;> rfl
@[simp] theorem pushOut_sequence (p : Port) (r : OutRecord) : (pushOut p r s).sequence = s.sequence := by cases p <;> rfl
@[simp] theorem pushOut_billingYear (p : Port) (r : OutRecord) : (pushOut p r s).billingYear = s.billingYear := by cases p <;> rfl
@[simp] theorem pushOut_billingPending (p : Port) (r : OutRecord) : (pushOut p r s).billingPending = s.billingPending := by cases p <;> rfl
@[simp] theorem pushOut_freeCount (p : Port) (r : OutRecord) : (pushOut p r s).freeCount = s.freeCount := by cases p <;> rfl

/-! ## setSlot -/

@[simp] theorem setSlot_pending (n : Nat) (e : SlotEntry) : (s.setSlot n e).pending = s.pending := rfl
@[simp] theorem setSlot_resetAsserted (n : Nat) (e : SlotEntry) : (s.setSlot n e).resetAsserted = s.resetAsserted := rfl
@[simp] theorem setSlot_powerWarn (n : Nat) (e : SlotEntry) : (s.setSlot n e).powerWarn = s.powerWarn := rfl
@[simp] theorem setSlot_device (n : Nat) (e : SlotEntry) : (s.setSlot n e).device = s.device := rfl
@[simp] theorem setSlot_prep (n : Nat) (e : SlotEntry) : (s.setSlot n e).prep = s.prep := rfl
@[simp] theorem setSlot_strap (n : Nat) (e : SlotEntry) : (s.setSlot n e).strap = s.strap := rfl
@[simp] theorem setSlot_medium (n : Nat) (e : SlotEntry) : (s.setSlot n e).medium = s.medium := rfl
@[simp] theorem setSlot_banks (n : Nat) (e : SlotEntry) : (s.setSlot n e).banks = s.banks := rfl
@[simp] theorem setSlot_burst (n : Nat) (e : SlotEntry) : (s.setSlot n e).burst = s.burst := rfl
@[simp] theorem setSlot_editions (n : Nat) (e : SlotEntry) : (s.setSlot n e).editions = s.editions := rfl
@[simp] theorem setSlot_objects (n : Nat) (e : SlotEntry) : (s.setSlot n e).objects = s.objects := rfl
@[simp] theorem setSlot_dirty (n : Nat) (e : SlotEntry) : (s.setSlot n e).dirty = s.dirty := rfl
@[simp] theorem setSlot_pool (n : Nat) (e : SlotEntry) : (s.setSlot n e).pool = s.pool := rfl
@[simp] theorem setSlot_relocations (n : Nat) (e : SlotEntry) : (s.setSlot n e).relocations = s.relocations := rfl
@[simp] theorem setSlot_arbiter (n : Nat) (e : SlotEntry) : (s.setSlot n e).arbiter = s.arbiter := rfl
@[simp] theorem setSlot_upkeep (n : Nat) (e : SlotEntry) : (s.setSlot n e).upkeep = s.upkeep := rfl
@[simp] theorem setSlot_locks (n : Nat) (e : SlotEntry) : (s.setSlot n e).locks = s.locks := rfl
@[simp] theorem setSlot_damage (n : Nat) (e : SlotEntry) : (s.setSlot n e).damage = s.damage := rfl
@[simp] theorem setSlot_overflow (n : Nat) (e : SlotEntry) : (s.setSlot n e).overflow = s.overflow := rfl
@[simp] theorem setSlot_curves (n : Nat) (e : SlotEntry) : (s.setSlot n e).curves = s.curves := rfl
@[simp] theorem setSlot_schedule (n : Nat) (e : SlotEntry) : (s.setSlot n e).schedule = s.schedule := rfl
@[simp] theorem setSlot_year (n : Nat) (e : SlotEntry) : (s.setSlot n e).year = s.year := rfl
@[simp] theorem setSlot_accounts (n : Nat) (e : SlotEntry) : (s.setSlot n e).accounts = s.accounts := rfl
@[simp] theorem setSlot_journal (n : Nat) (e : SlotEntry) : (s.setSlot n e).journal = s.journal := rfl
@[simp] theorem setSlot_sequence (n : Nat) (e : SlotEntry) : (s.setSlot n e).sequence = s.sequence := rfl
@[simp] theorem setSlot_billingYear (n : Nat) (e : SlotEntry) : (s.setSlot n e).billingYear = s.billingYear := rfl
@[simp] theorem setSlot_billingPending (n : Nat) (e : SlotEntry) : (s.setSlot n e).billingPending = s.billingPending := rfl
@[simp] theorem setSlot_portA (n : Nat) (e : SlotEntry) : (s.setSlot n e).portA = s.portA := rfl
@[simp] theorem setSlot_portB (n : Nat) (e : SlotEntry) : (s.setSlot n e).portB = s.portB := rfl
@[simp] theorem setSlot_freeCount (n : Nat) (e : SlotEntry) : (s.setSlot n e).freeCount = s.freeCount := rfl

/-! ## markDirty -/

@[simp] theorem markDirty_pending (g : Nat) : (markDirty g s).pending = s.pending := rfl
@[simp] theorem markDirty_resetAsserted (g : Nat) : (markDirty g s).resetAsserted = s.resetAsserted := rfl
@[simp] theorem markDirty_powerWarn (g : Nat) : (markDirty g s).powerWarn = s.powerWarn := rfl
@[simp] theorem markDirty_device (g : Nat) : (markDirty g s).device = s.device := rfl
@[simp] theorem markDirty_prep (g : Nat) : (markDirty g s).prep = s.prep := rfl
@[simp] theorem markDirty_strap (g : Nat) : (markDirty g s).strap = s.strap := rfl
@[simp] theorem markDirty_medium (g : Nat) : (markDirty g s).medium = s.medium := rfl
@[simp] theorem markDirty_banks (g : Nat) : (markDirty g s).banks = s.banks := rfl
@[simp] theorem markDirty_burst (g : Nat) : (markDirty g s).burst = s.burst := rfl
@[simp] theorem markDirty_editions (g : Nat) : (markDirty g s).editions = s.editions := rfl
@[simp] theorem markDirty_objects (g : Nat) : (markDirty g s).objects = s.objects := rfl
@[simp] theorem markDirty_slots (g : Nat) : (markDirty g s).slots = s.slots := rfl
@[simp] theorem markDirty_pool (g : Nat) : (markDirty g s).pool = s.pool := rfl
@[simp] theorem markDirty_relocations (g : Nat) : (markDirty g s).relocations = s.relocations := rfl
@[simp] theorem markDirty_arbiter (g : Nat) : (markDirty g s).arbiter = s.arbiter := rfl
@[simp] theorem markDirty_upkeep (g : Nat) : (markDirty g s).upkeep = s.upkeep := rfl
@[simp] theorem markDirty_locks (g : Nat) : (markDirty g s).locks = s.locks := rfl
@[simp] theorem markDirty_damage (g : Nat) : (markDirty g s).damage = s.damage := rfl
@[simp] theorem markDirty_overflow (g : Nat) : (markDirty g s).overflow = s.overflow := rfl
@[simp] theorem markDirty_curves (g : Nat) : (markDirty g s).curves = s.curves := rfl
@[simp] theorem markDirty_schedule (g : Nat) : (markDirty g s).schedule = s.schedule := rfl
@[simp] theorem markDirty_year (g : Nat) : (markDirty g s).year = s.year := rfl
@[simp] theorem markDirty_accounts (g : Nat) : (markDirty g s).accounts = s.accounts := rfl
@[simp] theorem markDirty_journal (g : Nat) : (markDirty g s).journal = s.journal := rfl
@[simp] theorem markDirty_sequence (g : Nat) : (markDirty g s).sequence = s.sequence := rfl
@[simp] theorem markDirty_billingYear (g : Nat) : (markDirty g s).billingYear = s.billingYear := rfl
@[simp] theorem markDirty_billingPending (g : Nat) : (markDirty g s).billingPending = s.billingPending := rfl
@[simp] theorem markDirty_portA (g : Nat) : (markDirty g s).portA = s.portA := rfl
@[simp] theorem markDirty_portB (g : Nat) : (markDirty g s).portB = s.portB := rfl
@[simp] theorem markDirty_freeCount (g : Nat) : (markDirty g s).freeCount = s.freeCount := rfl

/-! ## modEdition -/

@[simp] theorem modEdition_pending (k : EditionKey) (f : EditionRec → EditionRec) : (s.modEdition k f).pending = s.pending := rfl
@[simp] theorem modEdition_resetAsserted (k : EditionKey) (f : EditionRec → EditionRec) : (s.modEdition k f).resetAsserted = s.resetAsserted := rfl
@[simp] theorem modEdition_powerWarn (k : EditionKey) (f : EditionRec → EditionRec) : (s.modEdition k f).powerWarn = s.powerWarn := rfl
@[simp] theorem modEdition_device (k : EditionKey) (f : EditionRec → EditionRec) : (s.modEdition k f).device = s.device := rfl
@[simp] theorem modEdition_prep (k : EditionKey) (f : EditionRec → EditionRec) : (s.modEdition k f).prep = s.prep := rfl
@[simp] theorem modEdition_strap (k : EditionKey) (f : EditionRec → EditionRec) : (s.modEdition k f).strap = s.strap := rfl
@[simp] theorem modEdition_medium (k : EditionKey) (f : EditionRec → EditionRec) : (s.modEdition k f).medium = s.medium := rfl
@[simp] theorem modEdition_banks (k : EditionKey) (f : EditionRec → EditionRec) : (s.modEdition k f).banks = s.banks := rfl
@[simp] theorem modEdition_burst (k : EditionKey) (f : EditionRec → EditionRec) : (s.modEdition k f).burst = s.burst := rfl
@[simp] theorem modEdition_objects (k : EditionKey) (f : EditionRec → EditionRec) : (s.modEdition k f).objects = s.objects := rfl
@[simp] theorem modEdition_dirty (k : EditionKey) (f : EditionRec → EditionRec) : (s.modEdition k f).dirty = s.dirty := rfl
@[simp] theorem modEdition_slots (k : EditionKey) (f : EditionRec → EditionRec) : (s.modEdition k f).slots = s.slots := rfl
@[simp] theorem modEdition_pool (k : EditionKey) (f : EditionRec → EditionRec) : (s.modEdition k f).pool = s.pool := rfl
@[simp] theorem modEdition_relocations (k : EditionKey) (f : EditionRec → EditionRec) : (s.modEdition k f).relocations = s.relocations := rfl
@[simp] theorem modEdition_arbiter (k : EditionKey) (f : EditionRec → EditionRec) : (s.modEdition k f).arbiter = s.arbiter := rfl
@[simp] theorem modEdition_upkeep (k : EditionKey) (f : EditionRec → EditionRec) : (s.modEdition k f).upkeep = s.upkeep := rfl
@[simp] theorem modEdition_locks (k : EditionKey) (f : EditionRec → EditionRec) : (s.modEdition k f).locks = s.locks := rfl
@[simp] theorem modEdition_damage (k : EditionKey) (f : EditionRec → EditionRec) : (s.modEdition k f).damage = s.damage := rfl
@[simp] theorem modEdition_overflow (k : EditionKey) (f : EditionRec → EditionRec) : (s.modEdition k f).overflow = s.overflow := rfl
@[simp] theorem modEdition_curves (k : EditionKey) (f : EditionRec → EditionRec) : (s.modEdition k f).curves = s.curves := rfl
@[simp] theorem modEdition_schedule (k : EditionKey) (f : EditionRec → EditionRec) : (s.modEdition k f).schedule = s.schedule := rfl
@[simp] theorem modEdition_year (k : EditionKey) (f : EditionRec → EditionRec) : (s.modEdition k f).year = s.year := rfl
@[simp] theorem modEdition_accounts (k : EditionKey) (f : EditionRec → EditionRec) : (s.modEdition k f).accounts = s.accounts := rfl
@[simp] theorem modEdition_journal (k : EditionKey) (f : EditionRec → EditionRec) : (s.modEdition k f).journal = s.journal := rfl
@[simp] theorem modEdition_sequence (k : EditionKey) (f : EditionRec → EditionRec) : (s.modEdition k f).sequence = s.sequence := rfl
@[simp] theorem modEdition_billingYear (k : EditionKey) (f : EditionRec → EditionRec) : (s.modEdition k f).billingYear = s.billingYear := rfl
@[simp] theorem modEdition_billingPending (k : EditionKey) (f : EditionRec → EditionRec) : (s.modEdition k f).billingPending = s.billingPending := rfl
@[simp] theorem modEdition_portA (k : EditionKey) (f : EditionRec → EditionRec) : (s.modEdition k f).portA = s.portA := rfl
@[simp] theorem modEdition_portB (k : EditionKey) (f : EditionRec → EditionRec) : (s.modEdition k f).portB = s.portB := rfl
@[simp] theorem modEdition_freeCount (k : EditionKey) (f : EditionRec → EditionRec) : (s.modEdition k f).freeCount = s.freeCount := rfl

/-! ## modObject -/

@[simp] theorem modObject_pending (n : Nat) (f : ObjectRec → ObjectRec) : (s.modObject n f).pending = s.pending := rfl
@[simp] theorem modObject_resetAsserted (n : Nat) (f : ObjectRec → ObjectRec) : (s.modObject n f).resetAsserted = s.resetAsserted := rfl
@[simp] theorem modObject_powerWarn (n : Nat) (f : ObjectRec → ObjectRec) : (s.modObject n f).powerWarn = s.powerWarn := rfl
@[simp] theorem modObject_device (n : Nat) (f : ObjectRec → ObjectRec) : (s.modObject n f).device = s.device := rfl
@[simp] theorem modObject_prep (n : Nat) (f : ObjectRec → ObjectRec) : (s.modObject n f).prep = s.prep := rfl
@[simp] theorem modObject_strap (n : Nat) (f : ObjectRec → ObjectRec) : (s.modObject n f).strap = s.strap := rfl
@[simp] theorem modObject_medium (n : Nat) (f : ObjectRec → ObjectRec) : (s.modObject n f).medium = s.medium := rfl
@[simp] theorem modObject_banks (n : Nat) (f : ObjectRec → ObjectRec) : (s.modObject n f).banks = s.banks := rfl
@[simp] theorem modObject_burst (n : Nat) (f : ObjectRec → ObjectRec) : (s.modObject n f).burst = s.burst := rfl
@[simp] theorem modObject_editions (n : Nat) (f : ObjectRec → ObjectRec) : (s.modObject n f).editions = s.editions := rfl
@[simp] theorem modObject_dirty (n : Nat) (f : ObjectRec → ObjectRec) : (s.modObject n f).dirty = s.dirty := rfl
@[simp] theorem modObject_slots (n : Nat) (f : ObjectRec → ObjectRec) : (s.modObject n f).slots = s.slots := rfl
@[simp] theorem modObject_pool (n : Nat) (f : ObjectRec → ObjectRec) : (s.modObject n f).pool = s.pool := rfl
@[simp] theorem modObject_relocations (n : Nat) (f : ObjectRec → ObjectRec) : (s.modObject n f).relocations = s.relocations := rfl
@[simp] theorem modObject_arbiter (n : Nat) (f : ObjectRec → ObjectRec) : (s.modObject n f).arbiter = s.arbiter := rfl
@[simp] theorem modObject_upkeep (n : Nat) (f : ObjectRec → ObjectRec) : (s.modObject n f).upkeep = s.upkeep := rfl
@[simp] theorem modObject_locks (n : Nat) (f : ObjectRec → ObjectRec) : (s.modObject n f).locks = s.locks := rfl
@[simp] theorem modObject_damage (n : Nat) (f : ObjectRec → ObjectRec) : (s.modObject n f).damage = s.damage := rfl
@[simp] theorem modObject_overflow (n : Nat) (f : ObjectRec → ObjectRec) : (s.modObject n f).overflow = s.overflow := rfl
@[simp] theorem modObject_curves (n : Nat) (f : ObjectRec → ObjectRec) : (s.modObject n f).curves = s.curves := rfl
@[simp] theorem modObject_schedule (n : Nat) (f : ObjectRec → ObjectRec) : (s.modObject n f).schedule = s.schedule := rfl
@[simp] theorem modObject_year (n : Nat) (f : ObjectRec → ObjectRec) : (s.modObject n f).year = s.year := rfl
@[simp] theorem modObject_accounts (n : Nat) (f : ObjectRec → ObjectRec) : (s.modObject n f).accounts = s.accounts := rfl
@[simp] theorem modObject_journal (n : Nat) (f : ObjectRec → ObjectRec) : (s.modObject n f).journal = s.journal := rfl
@[simp] theorem modObject_sequence (n : Nat) (f : ObjectRec → ObjectRec) : (s.modObject n f).sequence = s.sequence := rfl
@[simp] theorem modObject_billingYear (n : Nat) (f : ObjectRec → ObjectRec) : (s.modObject n f).billingYear = s.billingYear := rfl
@[simp] theorem modObject_billingPending (n : Nat) (f : ObjectRec → ObjectRec) : (s.modObject n f).billingPending = s.billingPending := rfl
@[simp] theorem modObject_portA (n : Nat) (f : ObjectRec → ObjectRec) : (s.modObject n f).portA = s.portA := rfl
@[simp] theorem modObject_portB (n : Nat) (f : ObjectRec → ObjectRec) : (s.modObject n f).portB = s.portB := rfl
@[simp] theorem modObject_freeCount (n : Nat) (f : ObjectRec → ObjectRec) : (s.modObject n f).freeCount = s.freeCount := rfl

/-! ## removeLock -/

@[simp] theorem removeLock_pending (k : EditionKey) : (removeLock k s).pending = s.pending := rfl
@[simp] theorem removeLock_resetAsserted (k : EditionKey) : (removeLock k s).resetAsserted = s.resetAsserted := rfl
@[simp] theorem removeLock_powerWarn (k : EditionKey) : (removeLock k s).powerWarn = s.powerWarn := rfl
@[simp] theorem removeLock_device (k : EditionKey) : (removeLock k s).device = s.device := rfl
@[simp] theorem removeLock_prep (k : EditionKey) : (removeLock k s).prep = s.prep := rfl
@[simp] theorem removeLock_strap (k : EditionKey) : (removeLock k s).strap = s.strap := rfl
@[simp] theorem removeLock_medium (k : EditionKey) : (removeLock k s).medium = s.medium := rfl
@[simp] theorem removeLock_banks (k : EditionKey) : (removeLock k s).banks = s.banks := rfl
@[simp] theorem removeLock_burst (k : EditionKey) : (removeLock k s).burst = s.burst := rfl
@[simp] theorem removeLock_editions (k : EditionKey) : (removeLock k s).editions = s.editions := rfl
@[simp] theorem removeLock_objects (k : EditionKey) : (removeLock k s).objects = s.objects := rfl
@[simp] theorem removeLock_dirty (k : EditionKey) : (removeLock k s).dirty = s.dirty := rfl
@[simp] theorem removeLock_slots (k : EditionKey) : (removeLock k s).slots = s.slots := rfl
@[simp] theorem removeLock_pool (k : EditionKey) : (removeLock k s).pool = s.pool := rfl
@[simp] theorem removeLock_relocations (k : EditionKey) : (removeLock k s).relocations = s.relocations := rfl
@[simp] theorem removeLock_arbiter (k : EditionKey) : (removeLock k s).arbiter = s.arbiter := rfl
@[simp] theorem removeLock_upkeep (k : EditionKey) : (removeLock k s).upkeep = s.upkeep := rfl
@[simp] theorem removeLock_damage (k : EditionKey) : (removeLock k s).damage = s.damage := rfl
@[simp] theorem removeLock_overflow (k : EditionKey) : (removeLock k s).overflow = s.overflow := rfl
@[simp] theorem removeLock_curves (k : EditionKey) : (removeLock k s).curves = s.curves := rfl
@[simp] theorem removeLock_schedule (k : EditionKey) : (removeLock k s).schedule = s.schedule := rfl
@[simp] theorem removeLock_year (k : EditionKey) : (removeLock k s).year = s.year := rfl
@[simp] theorem removeLock_accounts (k : EditionKey) : (removeLock k s).accounts = s.accounts := rfl
@[simp] theorem removeLock_journal (k : EditionKey) : (removeLock k s).journal = s.journal := rfl
@[simp] theorem removeLock_sequence (k : EditionKey) : (removeLock k s).sequence = s.sequence := rfl
@[simp] theorem removeLock_billingYear (k : EditionKey) : (removeLock k s).billingYear = s.billingYear := rfl
@[simp] theorem removeLock_billingPending (k : EditionKey) : (removeLock k s).billingPending = s.billingPending := rfl
@[simp] theorem removeLock_portA (k : EditionKey) : (removeLock k s).portA = s.portA := rfl
@[simp] theorem removeLock_portB (k : EditionKey) : (removeLock k s).portB = s.portB := rfl
@[simp] theorem removeLock_freeCount (k : EditionKey) : (removeLock k s).freeCount = s.freeCount := rfl

/-! ## holdLock -/

@[simp] theorem holdLock_pending (k : EditionKey) : (holdLock k s).pending = s.pending := rfl
@[simp] theorem holdLock_resetAsserted (k : EditionKey) : (holdLock k s).resetAsserted = s.resetAsserted := rfl
@[simp] theorem holdLock_powerWarn (k : EditionKey) : (holdLock k s).powerWarn = s.powerWarn := rfl
@[simp] theorem holdLock_device (k : EditionKey) : (holdLock k s).device = s.device := rfl
@[simp] theorem holdLock_prep (k : EditionKey) : (holdLock k s).prep = s.prep := rfl
@[simp] theorem holdLock_strap (k : EditionKey) : (holdLock k s).strap = s.strap := rfl
@[simp] theorem holdLock_medium (k : EditionKey) : (holdLock k s).medium = s.medium := rfl
@[simp] theorem holdLock_banks (k : EditionKey) : (holdLock k s).banks = s.banks := rfl
@[simp] theorem holdLock_burst (k : EditionKey) : (holdLock k s).burst = s.burst := rfl
@[simp] theorem holdLock_editions (k : EditionKey) : (holdLock k s).editions = s.editions := rfl
@[simp] theorem holdLock_objects (k : EditionKey) : (holdLock k s).objects = s.objects := rfl
@[simp] theorem holdLock_dirty (k : EditionKey) : (holdLock k s).dirty = s.dirty := rfl
@[simp] theorem holdLock_slots (k : EditionKey) : (holdLock k s).slots = s.slots := rfl
@[simp] theorem holdLock_pool (k : EditionKey) : (holdLock k s).pool = s.pool := rfl
@[simp] theorem holdLock_relocations (k : EditionKey) : (holdLock k s).relocations = s.relocations := rfl
@[simp] theorem holdLock_arbiter (k : EditionKey) : (holdLock k s).arbiter = s.arbiter := rfl
@[simp] theorem holdLock_upkeep (k : EditionKey) : (holdLock k s).upkeep = s.upkeep := rfl
@[simp] theorem holdLock_damage (k : EditionKey) : (holdLock k s).damage = s.damage := rfl
@[simp] theorem holdLock_overflow (k : EditionKey) : (holdLock k s).overflow = s.overflow := rfl
@[simp] theorem holdLock_curves (k : EditionKey) : (holdLock k s).curves = s.curves := rfl
@[simp] theorem holdLock_schedule (k : EditionKey) : (holdLock k s).schedule = s.schedule := rfl
@[simp] theorem holdLock_year (k : EditionKey) : (holdLock k s).year = s.year := rfl
@[simp] theorem holdLock_accounts (k : EditionKey) : (holdLock k s).accounts = s.accounts := rfl
@[simp] theorem holdLock_journal (k : EditionKey) : (holdLock k s).journal = s.journal := rfl
@[simp] theorem holdLock_sequence (k : EditionKey) : (holdLock k s).sequence = s.sequence := rfl
@[simp] theorem holdLock_billingYear (k : EditionKey) : (holdLock k s).billingYear = s.billingYear := rfl
@[simp] theorem holdLock_billingPending (k : EditionKey) : (holdLock k s).billingPending = s.billingPending := rfl
@[simp] theorem holdLock_portA (k : EditionKey) : (holdLock k s).portA = s.portA := rfl
@[simp] theorem holdLock_portB (k : EditionKey) : (holdLock k s).portB = s.portB := rfl
@[simp] theorem holdLock_freeCount (k : EditionKey) : (holdLock k s).freeCount = s.freeCount := rfl

/-! ## billed -/

@[simp] theorem billed_pending : s.billed.pending = s.pending := rfl
@[simp] theorem billed_resetAsserted : s.billed.resetAsserted = s.resetAsserted := rfl
@[simp] theorem billed_powerWarn : s.billed.powerWarn = s.powerWarn := rfl
@[simp] theorem billed_device : s.billed.device = s.device := rfl
@[simp] theorem billed_prep : s.billed.prep = s.prep := rfl
@[simp] theorem billed_strap : s.billed.strap = s.strap := rfl
@[simp] theorem billed_medium : s.billed.medium = s.medium := rfl
@[simp] theorem billed_banks : s.billed.banks = s.banks := rfl
@[simp] theorem billed_burst : s.billed.burst = s.burst := rfl
@[simp] theorem billed_editions : s.billed.editions = s.editions := rfl
@[simp] theorem billed_objects : s.billed.objects = s.objects := rfl
@[simp] theorem billed_dirty : s.billed.dirty = s.dirty := rfl
@[simp] theorem billed_slots : s.billed.slots = s.slots := rfl
@[simp] theorem billed_pool : s.billed.pool = s.pool := rfl
@[simp] theorem billed_relocations : s.billed.relocations = s.relocations := rfl
@[simp] theorem billed_arbiter : s.billed.arbiter = s.arbiter := rfl
@[simp] theorem billed_upkeep : s.billed.upkeep = s.upkeep := rfl
@[simp] theorem billed_locks : s.billed.locks = s.locks := rfl
@[simp] theorem billed_damage : s.billed.damage = s.damage := rfl
@[simp] theorem billed_overflow : s.billed.overflow = s.overflow := rfl
@[simp] theorem billed_curves : s.billed.curves = s.curves := rfl
@[simp] theorem billed_schedule : s.billed.schedule = s.schedule := rfl
@[simp] theorem billed_year : s.billed.year = s.year := rfl
@[simp] theorem billed_accounts : s.billed.accounts = s.accounts := rfl
@[simp] theorem billed_journal : s.billed.journal = s.journal := rfl
@[simp] theorem billed_sequence : s.billed.sequence = s.sequence := rfl
@[simp] theorem billed_billingYear : s.billed.billingYear = s.billingYear := rfl
@[simp] theorem billed_portA : s.billed.portA = s.portA := rfl
@[simp] theorem billed_portB : s.billed.portB = s.portB := rfl
@[simp] theorem billed_freeCount : s.billed.freeCount = s.freeCount := rfl

/-! ## setAccount -/

@[simp] theorem setAccount_pending (n : Nat) (a : Account) : (s.setAccount n a).pending = s.pending := rfl
@[simp] theorem setAccount_resetAsserted (n : Nat) (a : Account) : (s.setAccount n a).resetAsserted = s.resetAsserted := rfl
@[simp] theorem setAccount_powerWarn (n : Nat) (a : Account) : (s.setAccount n a).powerWarn = s.powerWarn := rfl
@[simp] theorem setAccount_device (n : Nat) (a : Account) : (s.setAccount n a).device = s.device := rfl
@[simp] theorem setAccount_prep (n : Nat) (a : Account) : (s.setAccount n a).prep = s.prep := rfl
@[simp] theorem setAccount_strap (n : Nat) (a : Account) : (s.setAccount n a).strap = s.strap := rfl
@[simp] theorem setAccount_medium (n : Nat) (a : Account) : (s.setAccount n a).medium = s.medium := rfl
@[simp] theorem setAccount_banks (n : Nat) (a : Account) : (s.setAccount n a).banks = s.banks := rfl
@[simp] theorem setAccount_burst (n : Nat) (a : Account) : (s.setAccount n a).burst = s.burst := rfl
@[simp] theorem setAccount_editions (n : Nat) (a : Account) : (s.setAccount n a).editions = s.editions := rfl
@[simp] theorem setAccount_objects (n : Nat) (a : Account) : (s.setAccount n a).objects = s.objects := rfl
@[simp] theorem setAccount_dirty (n : Nat) (a : Account) : (s.setAccount n a).dirty = s.dirty := rfl
@[simp] theorem setAccount_slots (n : Nat) (a : Account) : (s.setAccount n a).slots = s.slots := rfl
@[simp] theorem setAccount_pool (n : Nat) (a : Account) : (s.setAccount n a).pool = s.pool := rfl
@[simp] theorem setAccount_relocations (n : Nat) (a : Account) : (s.setAccount n a).relocations = s.relocations := rfl
@[simp] theorem setAccount_arbiter (n : Nat) (a : Account) : (s.setAccount n a).arbiter = s.arbiter := rfl
@[simp] theorem setAccount_upkeep (n : Nat) (a : Account) : (s.setAccount n a).upkeep = s.upkeep := rfl
@[simp] theorem setAccount_locks (n : Nat) (a : Account) : (s.setAccount n a).locks = s.locks := rfl
@[simp] theorem setAccount_damage (n : Nat) (a : Account) : (s.setAccount n a).damage = s.damage := rfl
@[simp] theorem setAccount_overflow (n : Nat) (a : Account) : (s.setAccount n a).overflow = s.overflow := rfl
@[simp] theorem setAccount_curves (n : Nat) (a : Account) : (s.setAccount n a).curves = s.curves := rfl
@[simp] theorem setAccount_schedule (n : Nat) (a : Account) : (s.setAccount n a).schedule = s.schedule := rfl
@[simp] theorem setAccount_year (n : Nat) (a : Account) : (s.setAccount n a).year = s.year := rfl
@[simp] theorem setAccount_journal (n : Nat) (a : Account) : (s.setAccount n a).journal = s.journal := rfl
@[simp] theorem setAccount_sequence (n : Nat) (a : Account) : (s.setAccount n a).sequence = s.sequence := rfl
@[simp] theorem setAccount_billingYear (n : Nat) (a : Account) : (s.setAccount n a).billingYear = s.billingYear := rfl
@[simp] theorem setAccount_billingPending (n : Nat) (a : Account) : (s.setAccount n a).billingPending = s.billingPending := rfl
@[simp] theorem setAccount_portA (n : Nat) (a : Account) : (s.setAccount n a).portA = s.portA := rfl
@[simp] theorem setAccount_portB (n : Nat) (a : Account) : (s.setAccount n a).portB = s.portB := rfl
@[simp] theorem setAccount_freeCount (n : Nat) (a : Account) : (s.setAccount n a).freeCount = s.freeCount := rfl

/-! ## granted -/

@[simp] theorem granted_pending (r : Requester) : (granted r s).pending = s.pending := rfl
@[simp] theorem granted_resetAsserted (r : Requester) : (granted r s).resetAsserted = s.resetAsserted := rfl
@[simp] theorem granted_powerWarn (r : Requester) : (granted r s).powerWarn = s.powerWarn := rfl
@[simp] theorem granted_device (r : Requester) : (granted r s).device = s.device := rfl
@[simp] theorem granted_prep (r : Requester) : (granted r s).prep = s.prep := rfl
@[simp] theorem granted_strap (r : Requester) : (granted r s).strap = s.strap := rfl
@[simp] theorem granted_medium (r : Requester) : (granted r s).medium = s.medium := rfl
@[simp] theorem granted_banks (r : Requester) : (granted r s).banks = s.banks := rfl
@[simp] theorem granted_burst (r : Requester) : (granted r s).burst = s.burst := rfl
@[simp] theorem granted_editions (r : Requester) : (granted r s).editions = s.editions := rfl
@[simp] theorem granted_objects (r : Requester) : (granted r s).objects = s.objects := rfl
@[simp] theorem granted_dirty (r : Requester) : (granted r s).dirty = s.dirty := rfl
@[simp] theorem granted_slots (r : Requester) : (granted r s).slots = s.slots := rfl
@[simp] theorem granted_pool (r : Requester) : (granted r s).pool = s.pool := rfl
@[simp] theorem granted_relocations (r : Requester) : (granted r s).relocations = s.relocations := rfl
@[simp] theorem granted_upkeep (r : Requester) : (granted r s).upkeep = s.upkeep := rfl
@[simp] theorem granted_locks (r : Requester) : (granted r s).locks = s.locks := rfl
@[simp] theorem granted_damage (r : Requester) : (granted r s).damage = s.damage := rfl
@[simp] theorem granted_overflow (r : Requester) : (granted r s).overflow = s.overflow := rfl
@[simp] theorem granted_curves (r : Requester) : (granted r s).curves = s.curves := rfl
@[simp] theorem granted_schedule (r : Requester) : (granted r s).schedule = s.schedule := rfl
@[simp] theorem granted_year (r : Requester) : (granted r s).year = s.year := rfl
@[simp] theorem granted_accounts (r : Requester) : (granted r s).accounts = s.accounts := rfl
@[simp] theorem granted_journal (r : Requester) : (granted r s).journal = s.journal := rfl
@[simp] theorem granted_sequence (r : Requester) : (granted r s).sequence = s.sequence := rfl
@[simp] theorem granted_billingYear (r : Requester) : (granted r s).billingYear = s.billingYear := rfl
@[simp] theorem granted_billingPending (r : Requester) : (granted r s).billingPending = s.billingPending := rfl
@[simp] theorem granted_portA (r : Requester) : (granted r s).portA = s.portA := rfl
@[simp] theorem granted_portB (r : Requester) : (granted r s).portB = s.portB := rfl
@[simp] theorem granted_freeCount (r : Requester) : (granted r s).freeCount = s.freeCount := rfl

/-! ## startBurst -/

@[simp] theorem startBurst_pending (w : BurstWork) (n : Nat) (c : Option SlotContent) : (startBurst w n c s).pending = s.pending := rfl
@[simp] theorem startBurst_resetAsserted (w : BurstWork) (n : Nat) (c : Option SlotContent) : (startBurst w n c s).resetAsserted = s.resetAsserted := rfl
@[simp] theorem startBurst_powerWarn (w : BurstWork) (n : Nat) (c : Option SlotContent) : (startBurst w n c s).powerWarn = s.powerWarn := rfl
@[simp] theorem startBurst_device (w : BurstWork) (n : Nat) (c : Option SlotContent) : (startBurst w n c s).device = s.device := rfl
@[simp] theorem startBurst_prep (w : BurstWork) (n : Nat) (c : Option SlotContent) : (startBurst w n c s).prep = s.prep := rfl
@[simp] theorem startBurst_strap (w : BurstWork) (n : Nat) (c : Option SlotContent) : (startBurst w n c s).strap = s.strap := rfl
@[simp] theorem startBurst_medium (w : BurstWork) (n : Nat) (c : Option SlotContent) : (startBurst w n c s).medium = s.medium := rfl
@[simp] theorem startBurst_banks (w : BurstWork) (n : Nat) (c : Option SlotContent) : (startBurst w n c s).banks = s.banks := rfl
@[simp] theorem startBurst_editions (w : BurstWork) (n : Nat) (c : Option SlotContent) : (startBurst w n c s).editions = s.editions := rfl
@[simp] theorem startBurst_objects (w : BurstWork) (n : Nat) (c : Option SlotContent) : (startBurst w n c s).objects = s.objects := rfl
@[simp] theorem startBurst_dirty (w : BurstWork) (n : Nat) (c : Option SlotContent) : (startBurst w n c s).dirty = s.dirty := rfl
@[simp] theorem startBurst_slots (w : BurstWork) (n : Nat) (c : Option SlotContent) : (startBurst w n c s).slots = s.slots := rfl
@[simp] theorem startBurst_pool (w : BurstWork) (n : Nat) (c : Option SlotContent) : (startBurst w n c s).pool = s.pool := rfl
@[simp] theorem startBurst_relocations (w : BurstWork) (n : Nat) (c : Option SlotContent) : (startBurst w n c s).relocations = s.relocations := rfl
@[simp] theorem startBurst_arbiter (w : BurstWork) (n : Nat) (c : Option SlotContent) : (startBurst w n c s).arbiter = s.arbiter := rfl
@[simp] theorem startBurst_upkeep (w : BurstWork) (n : Nat) (c : Option SlotContent) : (startBurst w n c s).upkeep = s.upkeep := rfl
@[simp] theorem startBurst_locks (w : BurstWork) (n : Nat) (c : Option SlotContent) : (startBurst w n c s).locks = s.locks := rfl
@[simp] theorem startBurst_damage (w : BurstWork) (n : Nat) (c : Option SlotContent) : (startBurst w n c s).damage = s.damage := rfl
@[simp] theorem startBurst_overflow (w : BurstWork) (n : Nat) (c : Option SlotContent) : (startBurst w n c s).overflow = s.overflow := rfl
@[simp] theorem startBurst_curves (w : BurstWork) (n : Nat) (c : Option SlotContent) : (startBurst w n c s).curves = s.curves := rfl
@[simp] theorem startBurst_schedule (w : BurstWork) (n : Nat) (c : Option SlotContent) : (startBurst w n c s).schedule = s.schedule := rfl
@[simp] theorem startBurst_year (w : BurstWork) (n : Nat) (c : Option SlotContent) : (startBurst w n c s).year = s.year := rfl
@[simp] theorem startBurst_accounts (w : BurstWork) (n : Nat) (c : Option SlotContent) : (startBurst w n c s).accounts = s.accounts := rfl
@[simp] theorem startBurst_journal (w : BurstWork) (n : Nat) (c : Option SlotContent) : (startBurst w n c s).journal = s.journal := rfl
@[simp] theorem startBurst_sequence (w : BurstWork) (n : Nat) (c : Option SlotContent) : (startBurst w n c s).sequence = s.sequence := rfl
@[simp] theorem startBurst_billingYear (w : BurstWork) (n : Nat) (c : Option SlotContent) : (startBurst w n c s).billingYear = s.billingYear := rfl
@[simp] theorem startBurst_billingPending (w : BurstWork) (n : Nat) (c : Option SlotContent) : (startBurst w n c s).billingPending = s.billingPending := rfl
@[simp] theorem startBurst_portA (w : BurstWork) (n : Nat) (c : Option SlotContent) : (startBurst w n c s).portA = s.portA := rfl
@[simp] theorem startBurst_portB (w : BurstWork) (n : Nat) (c : Option SlotContent) : (startBurst w n c s).portB = s.portB := rfl
@[simp] theorem startBurst_freeCount (w : BurstWork) (n : Nat) (c : Option SlotContent) : (startBurst w n c s).freeCount = s.freeCount := rfl

/-! ## noteBurst -/

@[simp] theorem noteBurst_pending (k : UpkeepBurst) : (noteBurst k s).pending = s.pending := rfl
@[simp] theorem noteBurst_resetAsserted (k : UpkeepBurst) : (noteBurst k s).resetAsserted = s.resetAsserted := rfl
@[simp] theorem noteBurst_powerWarn (k : UpkeepBurst) : (noteBurst k s).powerWarn = s.powerWarn := rfl
@[simp] theorem noteBurst_device (k : UpkeepBurst) : (noteBurst k s).device = s.device := rfl
@[simp] theorem noteBurst_prep (k : UpkeepBurst) : (noteBurst k s).prep = s.prep := rfl
@[simp] theorem noteBurst_strap (k : UpkeepBurst) : (noteBurst k s).strap = s.strap := rfl
@[simp] theorem noteBurst_medium (k : UpkeepBurst) : (noteBurst k s).medium = s.medium := rfl
@[simp] theorem noteBurst_banks (k : UpkeepBurst) : (noteBurst k s).banks = s.banks := rfl
@[simp] theorem noteBurst_burst (k : UpkeepBurst) : (noteBurst k s).burst = s.burst := rfl
@[simp] theorem noteBurst_editions (k : UpkeepBurst) : (noteBurst k s).editions = s.editions := rfl
@[simp] theorem noteBurst_objects (k : UpkeepBurst) : (noteBurst k s).objects = s.objects := rfl
@[simp] theorem noteBurst_dirty (k : UpkeepBurst) : (noteBurst k s).dirty = s.dirty := rfl
@[simp] theorem noteBurst_slots (k : UpkeepBurst) : (noteBurst k s).slots = s.slots := rfl
@[simp] theorem noteBurst_pool (k : UpkeepBurst) : (noteBurst k s).pool = s.pool := rfl
@[simp] theorem noteBurst_relocations (k : UpkeepBurst) : (noteBurst k s).relocations = s.relocations := rfl
@[simp] theorem noteBurst_arbiter (k : UpkeepBurst) : (noteBurst k s).arbiter = s.arbiter := rfl
@[simp] theorem noteBurst_locks (k : UpkeepBurst) : (noteBurst k s).locks = s.locks := rfl
@[simp] theorem noteBurst_damage (k : UpkeepBurst) : (noteBurst k s).damage = s.damage := rfl
@[simp] theorem noteBurst_overflow (k : UpkeepBurst) : (noteBurst k s).overflow = s.overflow := rfl
@[simp] theorem noteBurst_curves (k : UpkeepBurst) : (noteBurst k s).curves = s.curves := rfl
@[simp] theorem noteBurst_schedule (k : UpkeepBurst) : (noteBurst k s).schedule = s.schedule := rfl
@[simp] theorem noteBurst_year (k : UpkeepBurst) : (noteBurst k s).year = s.year := rfl
@[simp] theorem noteBurst_accounts (k : UpkeepBurst) : (noteBurst k s).accounts = s.accounts := rfl
@[simp] theorem noteBurst_journal (k : UpkeepBurst) : (noteBurst k s).journal = s.journal := rfl
@[simp] theorem noteBurst_sequence (k : UpkeepBurst) : (noteBurst k s).sequence = s.sequence := rfl
@[simp] theorem noteBurst_billingYear (k : UpkeepBurst) : (noteBurst k s).billingYear = s.billingYear := rfl
@[simp] theorem noteBurst_billingPending (k : UpkeepBurst) : (noteBurst k s).billingPending = s.billingPending := rfl
@[simp] theorem noteBurst_portA (k : UpkeepBurst) : (noteBurst k s).portA = s.portA := rfl
@[simp] theorem noteBurst_portB (k : UpkeepBurst) : (noteBurst k s).portB = s.portB := rfl
@[simp] theorem noteBurst_freeCount (k : UpkeepBurst) : (noteBurst k s).freeCount = s.freeCount := rfl

/-! ## burstOver -/

@[simp] theorem burstOver_pending : (burstOver s).pending = s.pending := rfl
@[simp] theorem burstOver_resetAsserted : (burstOver s).resetAsserted = s.resetAsserted := rfl
@[simp] theorem burstOver_powerWarn : (burstOver s).powerWarn = s.powerWarn := rfl
@[simp] theorem burstOver_device : (burstOver s).device = s.device := rfl
@[simp] theorem burstOver_prep : (burstOver s).prep = s.prep := rfl
@[simp] theorem burstOver_strap : (burstOver s).strap = s.strap := rfl
@[simp] theorem burstOver_medium : (burstOver s).medium = s.medium := rfl
@[simp] theorem burstOver_banks : (burstOver s).banks = s.banks := rfl
@[simp] theorem burstOver_editions : (burstOver s).editions = s.editions := rfl
@[simp] theorem burstOver_objects : (burstOver s).objects = s.objects := rfl
@[simp] theorem burstOver_dirty : (burstOver s).dirty = s.dirty := rfl
@[simp] theorem burstOver_slots : (burstOver s).slots = s.slots := rfl
@[simp] theorem burstOver_pool : (burstOver s).pool = s.pool := rfl
@[simp] theorem burstOver_relocations : (burstOver s).relocations = s.relocations := rfl
@[simp] theorem burstOver_upkeep : (burstOver s).upkeep = s.upkeep := rfl
@[simp] theorem burstOver_locks : (burstOver s).locks = s.locks := rfl
@[simp] theorem burstOver_damage : (burstOver s).damage = s.damage := rfl
@[simp] theorem burstOver_overflow : (burstOver s).overflow = s.overflow := rfl
@[simp] theorem burstOver_curves : (burstOver s).curves = s.curves := rfl
@[simp] theorem burstOver_schedule : (burstOver s).schedule = s.schedule := rfl
@[simp] theorem burstOver_year : (burstOver s).year = s.year := rfl
@[simp] theorem burstOver_accounts : (burstOver s).accounts = s.accounts := rfl
@[simp] theorem burstOver_journal : (burstOver s).journal = s.journal := rfl
@[simp] theorem burstOver_sequence : (burstOver s).sequence = s.sequence := rfl
@[simp] theorem burstOver_billingYear : (burstOver s).billingYear = s.billingYear := rfl
@[simp] theorem burstOver_billingPending : (burstOver s).billingPending = s.billingPending := rfl
@[simp] theorem burstOver_portA : (burstOver s).portA = s.portA := rfl
@[simp] theorem burstOver_portB : (burstOver s).portB = s.portB := rfl
@[simp] theorem burstOver_freeCount : (burstOver s).freeCount = s.freeCount := rfl

/-! ## recountWhere -/

@[simp] theorem recountWhere_pending (f : ObjectRec → Bool) : (recountWhere f s).pending = s.pending := rfl
@[simp] theorem recountWhere_resetAsserted (f : ObjectRec → Bool) : (recountWhere f s).resetAsserted = s.resetAsserted := rfl
@[simp] theorem recountWhere_powerWarn (f : ObjectRec → Bool) : (recountWhere f s).powerWarn = s.powerWarn := rfl
@[simp] theorem recountWhere_device (f : ObjectRec → Bool) : (recountWhere f s).device = s.device := rfl
@[simp] theorem recountWhere_prep (f : ObjectRec → Bool) : (recountWhere f s).prep = s.prep := rfl
@[simp] theorem recountWhere_strap (f : ObjectRec → Bool) : (recountWhere f s).strap = s.strap := rfl
@[simp] theorem recountWhere_medium (f : ObjectRec → Bool) : (recountWhere f s).medium = s.medium := rfl
@[simp] theorem recountWhere_banks (f : ObjectRec → Bool) : (recountWhere f s).banks = s.banks := rfl
@[simp] theorem recountWhere_burst (f : ObjectRec → Bool) : (recountWhere f s).burst = s.burst := rfl
@[simp] theorem recountWhere_editions (f : ObjectRec → Bool) : (recountWhere f s).editions = s.editions := rfl
@[simp] theorem recountWhere_dirty (f : ObjectRec → Bool) : (recountWhere f s).dirty = s.dirty := rfl
@[simp] theorem recountWhere_slots (f : ObjectRec → Bool) : (recountWhere f s).slots = s.slots := rfl
@[simp] theorem recountWhere_pool (f : ObjectRec → Bool) : (recountWhere f s).pool = s.pool := rfl
@[simp] theorem recountWhere_relocations (f : ObjectRec → Bool) : (recountWhere f s).relocations = s.relocations := rfl
@[simp] theorem recountWhere_arbiter (f : ObjectRec → Bool) : (recountWhere f s).arbiter = s.arbiter := rfl
@[simp] theorem recountWhere_upkeep (f : ObjectRec → Bool) : (recountWhere f s).upkeep = s.upkeep := rfl
@[simp] theorem recountWhere_locks (f : ObjectRec → Bool) : (recountWhere f s).locks = s.locks := rfl
@[simp] theorem recountWhere_overflow (f : ObjectRec → Bool) : (recountWhere f s).overflow = s.overflow := rfl
@[simp] theorem recountWhere_curves (f : ObjectRec → Bool) : (recountWhere f s).curves = s.curves := rfl
@[simp] theorem recountWhere_schedule (f : ObjectRec → Bool) : (recountWhere f s).schedule = s.schedule := rfl
@[simp] theorem recountWhere_year (f : ObjectRec → Bool) : (recountWhere f s).year = s.year := rfl
@[simp] theorem recountWhere_accounts (f : ObjectRec → Bool) : (recountWhere f s).accounts = s.accounts := rfl
@[simp] theorem recountWhere_journal (f : ObjectRec → Bool) : (recountWhere f s).journal = s.journal := rfl
@[simp] theorem recountWhere_sequence (f : ObjectRec → Bool) : (recountWhere f s).sequence = s.sequence := rfl
@[simp] theorem recountWhere_billingYear (f : ObjectRec → Bool) : (recountWhere f s).billingYear = s.billingYear := rfl
@[simp] theorem recountWhere_billingPending (f : ObjectRec → Bool) : (recountWhere f s).billingPending = s.billingPending := rfl
@[simp] theorem recountWhere_portA (f : ObjectRec → Bool) : (recountWhere f s).portA = s.portA := rfl
@[simp] theorem recountWhere_portB (f : ObjectRec → Bool) : (recountWhere f s).portB = s.portB := rfl
@[simp] theorem recountWhere_freeCount (f : ObjectRec → Bool) : (recountWhere f s).freeCount = s.freeCount := rfl

/-! ## What is written -/

@[simp] theorem setPort_port_same (p : Port) (e : PortEngine) : (s.setPort p e).port p = e := by cases p <;> rfl
@[simp] theorem modPort_port_same (p : Port) (f : PortEngine → PortEngine) : (s.modPort p f).port p = f (s.port p) := by
  cases p <;> rfl
theorem setPort_port_other {p q : Port} (e : PortEngine) (h : q ≠ p) : (s.setPort p e).port q = s.port q := by
  cases p <;> cases q <;> first | rfl | exact absurd rfl h
theorem modPort_port_other {p q : Port} (f : PortEngine → PortEngine) (h : q ≠ p) : (s.modPort p f).port q = s.port q :=
  setPort_port_other s _ h
@[simp] theorem setOp_port_same (p : Port) (o : Op) : (s.setOp p o).port p = { s.port p with op := o } := by cases p <;> rfl
@[simp] theorem pushOut_port_same (p : Port) (r : OutRecord) :
    (pushOut p r s).port p = { s.port p with outq := (s.port p).outq ++ [r] } := by cases p <;> rfl
theorem pushOut_port_other {p q : Port} (r : OutRecord) (h : q ≠ p) : (pushOut p r s).port q = s.port q :=
  modPort_port_other s _ h
@[simp] theorem markDirty_dirty (g : Nat) : (markDirty g s).dirty = Assoc.addNat g s.dirty := rfl
@[simp] theorem billed_billingPending : s.billed.billingPending = true := rfl
@[simp] theorem granted_arbiter (r : Requester) : (granted r s).arbiter = grantState r s.arbiter := rfl
@[simp] theorem startBurst_burst (w : BurstWork) (n : Nat) (c : Option SlotContent) :
    (startBurst w n c s).burst = some ⟨w, n, false, 0, c⟩ := rfl
@[simp] theorem burstOver_burst : (burstOver s).burst = none := rfl
@[simp] theorem removeLock_port (k : EditionKey) (p : Port) : (removeLock k s).port p = s.port p := by cases p <;> rfl
@[simp] theorem markDirty_port (g : Nat) (p : Port) : (markDirty g s).port p = s.port p := by cases p <;> rfl
@[simp] theorem setSlot_port (n : Nat) (e : SlotEntry) (p : Port) : (s.setSlot n e).port p = s.port p := by cases p <;> rfl
@[simp] theorem modEdition_port (k : EditionKey) (f : EditionRec → EditionRec) (p : Port) :
    (s.modEdition k f).port p = s.port p := by cases p <;> rfl
@[simp] theorem modObject_port (n : Nat) (f : ObjectRec → ObjectRec) (p : Port) :
    (s.modObject n f).port p = s.port p := by cases p <;> rfl

/-- The slot table after a slot has been given an entry: every other slot is as it was. -/
theorem slot_setSlot_other {m n : Nat} (e : SlotEntry) (h : m ≠ n) : (s.setSlot n e).slot m = s.slot m :=
  Assoc.get_put_other e h

/-- The slot itself has the entry, where it is not the entry of an unlisted slot. -/
theorem slot_setSlot_new {n : Nat} {e : SlotEntry} (h : e ≠ slotDefault n) : (s.setSlot n e).slot n = e :=
  Assoc.get_put_new h

/-- The slot itself has the entry, in a canonical slot table. -/
theorem slot_setSlot_same (n : Nat) (e : SlotEntry) (h : Assoc.wf slotDefault s.slots = true) : (s.setSlot n e).slot n = e :=
  Assoc.get_put_same n e h

/-- The slot table keeps its canonical form. -/
theorem wf_setSlot (n : Nat) (e : SlotEntry) (h : Assoc.wf slotDefault s.slots = true) :
    Assoc.wf slotDefault (s.setSlot n e).slots = true := Assoc.wf_put n e h

/-- A group is dirty after a mark when it is the group marked or was dirty before. -/
theorem mem_markDirty {g h : Nat} : h ∈ (markDirty g s).dirty ↔ h = g ∨ h ∈ s.dirty := Assoc.mem_addNat

end Sys2Proof.Machine
end

