-- ==== Sys2Proof/Laws/Commands.lean ====
section
/-!
SUPPORT. What every command has in common: when it starts, how it is admitted and refused, and how it is answered.
-/

namespace Sys2Proof.Machine

open Sys2Proof

variable {p : Port} {s : State}

/-- A command that can start finds a free place and no waiting notice. -/
theorem canStart_hasPlace (h : canStart p s = true) : (s.port p).hasPlace = true := by
  simp only [canStart, Bool.and_eq_true] at h; exact h.1.2

theorem canStart_noMarks (h : canStart p s = true) : (s.port p).noMarks = true := by
  simp only [canStart, Bool.and_eq_true] at h; exact h.2

/-- A command that can start finds its port with no operation in flight. -/
theorem canStart_idle (h : canStart p s = true) : (s.port p).op = .idle := by
  simp only [canStart, Bool.and_eq_true, beq_iff_eq] at h; exact h.1.1.1.1.1.2

theorem canStart_running (h : canStart p s = true) : s.resetAsserted = false := by
  simp only [canStart, Bool.and_eq_true, Bool.not_eq_true'] at h; exact h.1.1.1.1.1.1

theorem submit_of_start {r : InRecord} {run : State → State} (h : canStart p s = true) :
    submit p r run s = settle (run s) := by rw [submit, if_pos h]

theorem submit_of_wait {r : InRecord} {run : State → State} (h : canStart p s = false) :
    submit p r run s = settle (receive p r s) := by rw [submit, if_neg (by simp [h])]

/-- A command that passes the device state check and the port check goes on. -/
theorem whenAdmitted_of_ready {o : OpenTo} {tag : Tag} {run : State} (hd : s.device = .ready) (ho : o.admits p = true) :
    whenAdmitted o p tag s run = run := by simp [whenAdmitted, deviceRefusal, hd, ho]

/-- A command in another device state than READY is refused with that state's cause. -/
theorem whenAdmitted_of_device {o : OpenTo} {tag : Tag} {run : State} {cause : Cause} (hd : deviceRefusal s.device = some cause) :
    whenAdmitted o p tag s run = refuse p tag cause s := by simp [whenAdmitted, hd]

theorem whenAdmitted_of_port {o : OpenTo} {tag : Tag} {run : State} (hd : s.device = .ready) (ho : o.admits p = false) :
    whenAdmitted o p tag s run = refuse p tag .wrongPort s := by simp [whenAdmitted, deviceRefusal, hd, ho]

/-- An answer with a free place is placed at once. -/
theorem answer_of_place {r : Response} (h : (s.port p).hasPlace = true) : answer p r s = pushOut p (.response r) s := by
  rw [answer, if_pos h]

theorem answerDone_of_place {tag : Tag} {ws : List Word} (h : (s.port p).hasPlace = true) :
    answerDone p tag ws s = pushOut p (doneRecord tag [] ws) s := answer_of_place h

theorem refuse_of_place {tag : Tag} {cause : Cause} (h : (s.port p).hasPlace = true) :
    refuse p tag cause s = pushOut p (refusedRecord tag cause []) s := answer_of_place h

theorem refuseWith_of_place {tag : Tag} {cause : Cause} {ws : List Word} (h : (s.port p).hasPlace = true) :
    refuseWith p tag cause ws s = pushOut p (refusedRecord tag cause ws) s := answer_of_place h

/-- Everything an answer can do: it is placed, or its command stays in flight with it. -/
theorem answer_cases (r : Response) :
    ((s.port p).hasPlace = true ∧ answer p r s = pushOut p (.response r) s) ∨
      ((s.port p).hasPlace = false ∧ answer p r s = s.setOp p (.respond r none false)) := by
  cases h : (s.port p).hasPlace <;> simp [answer, h]

/-- Everything a record that arrives can do: it is not taken, it is held, or it enters the input queue. -/
theorem receive_cases (r : InRecord) :
    ((s.resetAsserted = true ∨ (s.port p).held ≠ none) ∧ receive p r s = s) ∨
      (s.resetAsserted = false ∧ (s.port p).held = none ∧ 8 ≤ (s.port p).inq.length ∧
        receive p r s = s.modPort p fun e => { e with held := some r }) ∨
      (s.resetAsserted = false ∧ (s.port p).held = none ∧ (s.port p).inq.length < 8 ∧ receive p r s = enterRecord p r s) := by
  cases hr : s.resetAsserted <;> cases hh : (s.port p).held <;> simp [receive, hr, hh]
  by_cases hl : (s.port p).inq.length < 8 <;> simp [hl] <;> omega

end Sys2Proof.Machine
end

