-- ==== Sys2Proof/Laws/Settle.lean ====
section
/-!
SUPPORT. What follows of its own accord from an event: the induction over it, packaged once, and what a single move can be.
-/

namespace Sys2Proof.Machine

open Sys2Proof

/-- A property that every move keeps is kept by settling for any number of moves. -/
theorem settleFor_keeps {P : State → Prop} (h : ∀ s t, P s → microStep s = some t → P t) (fuel : Nat) {s : State}
    (hs : P s) : P (settleFor fuel s) := by
  induction fuel generalizing s with
  | zero => exact hs
  | succ n ih =>
    simp only [settleFor]
    split
    · exact hs
    · next t ht => exact ih (h _ _ hs ht)

/-- A property that every move keeps is kept by settling. -/
theorem settle_keeps {P : State → Prop} (h : ∀ s t, P s → microStep s = some t → P t) {s : State} (hs : P s) :
    P (settle s) := settleFor_keeps h _ hs

/-- The moves to a next request are moves of the operation. -/
theorem advanceToRequest_some {p : Port} {s t : State} (h : advanceToRequest p s = some t) : advance p s = some t := by
  unfold advanceToRequest at h; split at h
  · exact h
  · simp at h

/-- Everything the placing of a response that has been made can do (R154): it takes a free place and its operation ends. -/
theorem placeMade_some {p : Port} {s t : State} (h : placeMade p s = some t) :
    ∃ r edition store, (s.port p).restart = .none ∧ (s.port p).op = .respond r edition store ∧ (s.port p).hasPlace = true ∧
      t = endOp p (pushOut p (.response r) s) := by
  unfold placeMade at h
  split at h
  · next r edition store hr ho =>
    unfold placeResponse at h
    split at h
    · next hp => exact ⟨r, edition, store, hr, ho, hp, by simpa using h.symm⟩
    · simp at h
  · simp at h

/-- The decision at a burst's end is a grant decision. -/
theorem arbitrateDue_some {s t : State} (h : arbitrateDue s = some t) : arbitrate s = some t := by
  unfold arbitrateDue at h; split at h
  · exact h
  · simp at h

/-- A move is one of the actions, out of RESET; those that come earlier in part are among them. -/
theorem microStep_cases {s t : State} (h : microStep s = some t) :
    s.resetAsserted = false ∧
      (placeMark .a s = some t ∨ placeMark .b s = some t ∨ placeMade .a s = some t ∨ placeMade .b s = some t ∨ enterHeld .a s = some t ∨ enterHeld .b s = some t ∨
        advance .a s = some t ∨ advance .b s = some t ∨ flushComplete s = some t ∨ prepStart s = some t ∨
        arbitrate s = some t ∨ inbound s = some t) := by
  unfold microStep at h
  split at h
  · simp at h
  · next hr =>
    refine ⟨by simpa using hr, ?_⟩
    obtain ⟨act, hm, ha⟩ := List.exists_of_findSome?_eq_some h
    simp only [actions, List.mem_cons, List.not_mem_nil, or_false] at hm
    rcases hm with rfl | rfl | rfl | rfl | rfl | rfl | rfl | rfl | rfl | rfl | rfl | rfl | rfl | rfl | rfl <;>
      first
        | simp [ha]
        | simp [advanceToRequest_some ha]
        | simp [arbitrateDue_some ha]

/-- While RESET is asserted nothing happens of its own accord. -/
theorem microStep_in_reset {s : State} (h : s.resetAsserted = true) : microStep s = none := by simp [microStep, h]

end Sys2Proof.Machine
end

