-- ==== Sys2Proof/Laws/Frames.lean ====
section
/-!
SUPPORT. For each shared operation, the fields it can change: what it answers is the state with those fields replaced.
-/

namespace Sys2Proof.Machine

open Sys2Proof

/-! ## Notices -/

/-- A notice changes its own port only: its response queue or one of its pending marks. -/
theorem raiseBank_cases (b : Nat) (p : Port) (s : State) :
    raiseBank b p s = pushOut p (.notice (bankNotice s b false)) s ∨
      raiseBank b p s = s.modPort p fun e => { e with bankMark := some b } := by
  unfold raiseBank; split <;> simp

theorem raiseDevice_cases (p : Port) (s : State) :
    raiseDevice p s = pushOut p (.notice (.deviceState s.device false)) s ∨
      raiseDevice p s = s.modPort p fun e => { e with deviceMark := true } := by
  unfold raiseDevice; split <;> simp

theorem raiseStray_cases (n : Nat) (p : Port) (s : State) :
    raiseStray n p s = pushOut p (.notice (.strayData n 1 false)) s ∨
      raiseStray n p s = s.modPort p fun e => { e with strayMark := some (mergeStray n e.strayMark) } := by
  unfold raiseStray; split <;> simp

/-- A notice placed at once goes into a free place only. -/
theorem raiseBank_outq (b : Nat) (p : Port) (s : State) (h : (s.port p).outq.length ≤ 16) :
    ((raiseBank b p s).port p).outq.length ≤ 16 := by
  unfold raiseBank
  split
  · next hp => simp [PortEngine.hasPlace] at hp; simp; omega
  · simpa using h

theorem raiseDevice_outq (p : Port) (s : State) (h : (s.port p).outq.length ≤ 16) :
    ((raiseDevice p s).port p).outq.length ≤ 16 := by
  unfold raiseDevice
  split
  · next hp => simp [PortEngine.hasPlace] at hp; simp; omega
  · simpa using h

theorem raiseStray_outq (n : Nat) (p : Port) (s : State) (h : (s.port p).outq.length ≤ 16) :
    ((raiseStray n p s).port p).outq.length ≤ 16 := by
  unfold raiseStray
  split
  · next hp => simp [PortEngine.hasPlace] at hp; simp; omega
  · simpa using h

/-- Only the ports change when a bank notice is raised to both. -/
theorem raiseBank_frame (b : Nat) (p : Port) (s : State) :
    raiseBank b p s = { s with portA := (raiseBank b p s).portA, portB := (raiseBank b p s).portB } := by
  rcases raiseBank_cases b p s with h | h <;> rw [h] <;> cases p <;> rfl

theorem raiseDevice_frame (p : Port) (s : State) :
    raiseDevice p s = { s with portA := (raiseDevice p s).portA, portB := (raiseDevice p s).portB } := by
  rcases raiseDevice_cases p s with h | h <;> rw [h] <;> cases p <;> rfl

theorem raiseStray_frame (n : Nat) (p : Port) (s : State) :
    raiseStray n p s = { s with portA := (raiseStray n p s).portA, portB := (raiseStray n p s).portB } := by
  rcases raiseStray_cases n p s with h | h <;> rw [h] <;> cases p <;> rfl

/-! ## Slots, the pool and the relocation list -/

theorem retireSlot_frame (n : Nat) (s : State) :
    retireSlot n s = { s with slots := (retireSlot n s).slots, pool := s.pool.filter (· != n),
                              dirty := Assoc.addNat (markGroup n) s.dirty } := rfl

theorem leaveRelocations_frame (n : Nat) (s : State) :
    leaveRelocations n s = { s with slots := (leaveRelocations n s).slots
                                    relocations := (leaveRelocations n s).relocations } := by
  unfold leaveRelocations; split <;> rfl

/-- A slot taken off the relocation list is not on it. -/
theorem leaveRelocations_not_mem (n : Nat) (s : State) : n ∉ (leaveRelocations n s).relocations := by
  unfold leaveRelocations; split <;> simp_all

/-- Everything a joining of the relocation list can do: nothing, or the slot comes last, with its mark set. -/
theorem joinRelocations_cases (n : Nat) (s : State) :
    joinRelocations n s = s ∨
      ((s.slot n).count = 3 ∧ (s.slot n).state = .assigned ∧ 512 ≤ n ∧ n ∉ s.relocations ∧ slotOffline s n = false ∧
        s.relocations.length < 16 ∧
        joinRelocations n s = { s.setSlot n { s.slot n with relocationPending := true } with
          relocations := s.relocations ++ [n] }) := by
  unfold joinRelocations
  simp only
  split
  · next h => exact .inr ⟨h.1, h.2.1, h.2.2.1, h.2.2.2.1, h.2.2.2.2.1, h.2.2.2.2.2, rfl⟩
  · exact .inl rfl

theorem joinRelocations_frame (n : Nat) (s : State) :
    joinRelocations n s = { s with slots := (joinRelocations n s).slots, relocations := (joinRelocations n s).relocations } := by
  rcases joinRelocations_cases n s with h | ⟨-, -, -, -, -, -, h⟩ <;> rw [h] <;> rfl

/-- The relocation list keeps its bound of 16 (R93). -/
theorem joinRelocations_length (n : Nat) (s : State) (h : s.relocations.length ≤ 16) :
    (joinRelocations n s).relocations.length ≤ 16 := by
  rcases joinRelocations_cases n s with e | ⟨-, -, -, -, -, hl, e⟩ <;> rw [e]
  · exact h
  · simp; omega

theorem dropCopy_frame (s : State) :
    dropCopy s = { s with upkeep := { s.upkeep with buffer := none }, slots := (dropCopy s).slots, pool := (dropCopy s).pool } := by
  unfold dropCopy
  split
  · next h => rw [← h]
  · simp only; split <;> rfl

theorem startWrite_frame (n : Nat) (s : State) :
    startWrite n s = { s with slots := (startWrite n s).slots, dirty := (startWrite n s).dirty
                              relocations := s.relocations.filter (· != n) } := by
  unfold startWrite; simp only; split <;> rfl

/-- A slot that is being written is not on the relocation list (R8, R93). -/
theorem startWrite_not_mem (n : Nat) (s : State) : n ∉ (startWrite n s).relocations := by
  rw [startWrite_frame]; simp

/-! ## Damage -/

theorem raiseDamage_frame (n : Nat) (s : State) :
    raiseDamage n s = { s with damage := (raiseDamage n s).damage, objects := (raiseDamage n s).objects
                               overflow := (raiseDamage n s).overflow } := by
  unfold raiseDamage
  split
  · rfl
  · split
    · rfl
    · split
      · rfl
      · split <;> rfl

/-- The damage list keeps its bound of 128 (R97). -/
theorem raiseDamage_length (n : Nat) (s : State) (h : s.damage.length ≤ 128) : (raiseDamage n s).damage.length ≤ 128 := by
  unfold raiseDamage
  split
  · exact h
  · split
    · simpa using h
    · split
      · exact h
      · split
        · next hl => simp; omega
        · exact h

theorem recordDamage_frame (n : Nat) (s : State) :
    recordDamage n s = { s with slots := (recordDamage n s).slots, dirty := (recordDamage n s).dirty
                                damage := (recordDamage n s).damage, objects := (recordDamage n s).objects
                                overflow := (recordDamage n s).overflow } := by
  unfold recordDamage
  simp only
  split
  · rw [raiseDamage_frame]; rfl
  · rfl

theorem refillFrom_frame (os : List ObjectRec) (s : State) :
    refillFrom os s = { s with damage := (refillFrom os s).damage, objects := (refillFrom os s).objects } := by
  induction os generalizing s with
  | nil => rfl
  | cons o rest ih =>
    simp only [refillFrom]
    split
    · rw [ih]; rfl
    · exact ih s

theorem refillDamage_frame (s : State) :
    refillDamage s = { s with damage := (refillDamage s).damage, objects := (refillDamage s).objects
                              overflow := (refillDamage s).overflow } := by
  unfold refillDamage
  simp only
  split <;> rw [refillFrom_frame]

/-! ## Banks -/

theorem dropIfOffline_frame (s : State) :
    ∃ u sl pl, dropIfOffline s = { s with upkeep := u, slots := sl, pool := pl } := by
  unfold dropIfOffline
  split
  · exact ⟨_, _, _, rfl⟩
  · split
    · exact ⟨_, _, _, dropCopy_frame s⟩
    · exact ⟨_, _, _, rfl⟩

theorem bankCrossed_frame (b : Nat) (s : State) :
    ∃ o d u sl pl, bankCrossed b s = { s with objects := o, damage := d, upkeep := u, slots := sl, pool := pl } := by
  obtain ⟨u, sl, pl, h⟩ := dropIfOffline_frame (recountWhere (fun o => o.tileMap.any fun m => bankOf m.slot == b) s)
  exact ⟨_, _, u, sl, pl, h⟩

/-- Everything a change of a bank's state can change: the bank, the ports, the impaired counts, and the copy of the upkeep engine
with its target. -/
theorem setBank_frame (b : Nat) (st : BankState) (s : State) :
    ∃ a' b' o d u sl pl, setBank b st s = { s with
      banks := s.banks.set b st, portA := a', portB := b', objects := o, damage := d, upkeep := u, slots := sl
      pool := pl } := by
  unfold setBank
  simp only
  split
  · next h =>
    have : s.banks.set b st = s.banks := by
      subst h
      apply List.ext_getElem? fun i => ?_
      rw [List.getElem?_set]
      split
      · next hi => subst hi; split <;> simp_all
      · rfl
    exact ⟨_, _, _, _, _, _, _, by rw [this]⟩
  · have h1 := raiseBank_frame b .a { s with banks := s.banks.set b st }
    generalize raiseBank b .a { s with banks := s.banks.set b st } = t at h1 ⊢
    have h2 := raiseBank_frame b .b t
    generalize raiseBank b .b t = v at h2 ⊢
    split
    · obtain ⟨o, d, u, sl, pl, h3⟩ := bankCrossed_frame b v
      exact ⟨_, _, o, d, u, sl, pl, by rw [h3, h2, h1]⟩
    · exact ⟨_, _, _, _, _, _, _, by rw [h2, h1]⟩

/-- A bank takes the state it is given. -/
theorem setBank_banks (b : Nat) (st : BankState) (s : State) : (setBank b st s).banks = s.banks.set b st := by
  obtain ⟨_, _, _, _, _, _, _, h⟩ := setBank_frame b st s
  rw [h]

/-! ## The journal -/

theorem voidOrder_frame (n : BitVec 32) (s : State) :
    voidOrder n s = { s with journal := (voidOrder n s).journal, billingPending := (voidOrder n s).billingPending } := by
  unfold voidOrder; split <;> rfl

theorem voidAll_frame (s : State) :
    voidAll s = { s with journal := (voidAll s).journal, billingPending := (voidAll s).billingPending } := by
  unfold voidAll; split <;> rfl

/-- After a power warning or a preparation no entry is PROVISIONAL (R23, R147). -/
theorem voidAll_not_provisional (s : State) : ∀ e ∈ (voidAll s).journal, e.state ≠ .provisional := by
  unfold voidAll
  split
  · intro e he
    simp only [List.mem_map] at he
    obtain ⟨f, -, rfl⟩ := he
    split
    · simp [voidEntry]
    · assumption
  · next h => simpa using h

/-! ## Locks -/

/-- A lock entry taken out of the table is gone, and the others stand (R72). -/
theorem lockOf_removeLock_same (k : EditionKey) (s : State) : lockOf (removeLock k s) k = none := by
  simp only [lockOf, removeLock, List.findSome?_map, List.findSome?_eq_none_iff]
  intro l _
  rcases l with _ | e
  · rfl
  · by_cases h : e.key = k <;> simp [h]

theorem lockOf_removeLock_other {k q : EditionKey} (s : State) (h : q ≠ k) : lockOf (removeLock k s) q = lockOf s q := by
  simp only [lockOf, removeLock, List.findSome?_map]
  congr 1
  funext l
  rcases l with _ | e
  · rfl
  · by_cases hk : e.key = k
    · have hq : e.key ≠ q := fun hq => h (hq.symm.trans hk)
      simp [hk, Ne.symm h]
    · simp [hk]

end Sys2Proof.Machine
end

