-- ==== Sys2Proof/Laws/Device.lean ====
section
/-!
SUPPORT. What the operations of device control can do: the end of an operation that waits, the stop of the upkeep engine, the end
of FLUSHING, and the arrival of a record by its kind.
-/

namespace Sys2Proof.Machine

open Sys2Proof

/-- Discarding a port's snapshot touches that port alone. -/
@[simp] theorem dropSnapshot_port_same (p : Port) (s : State) :
    (dropSnapshot p s).port p = { s.port p with snapshot := none } := by cases p <;> rfl

/-- The end of a wait for a billing flush touches the ports alone. -/
theorem endWait_frame (p : Port) (s : State) :
    endWait p s = { s with portA := (endWait p s).portA, portB := (endWait p s).portB } := by
  unfold endWait
  split
  · cases p <;> rfl
  · split
    · cases p <;> rfl
    · rfl
    · rfl
  all_goals rfl

/-- The upkeep engine stops with nothing changed but its own buffer, the marks of its burst in flight, and the slot and the pool
that a dropped target goes back to. -/
theorem stopUpkeep_frame (s : State) :
    stopUpkeep s = { s with upkeep := { s.upkeep with buffer := (stopUpkeep s).upkeep.buffer }, burst := (stopUpkeep s).burst,
                            slots := (stopUpkeep s).slots, pool := (stopUpkeep s).pool } := by
  unfold stopUpkeep
  split
  · rw [dropCopy_frame]
  · split
    · rfl
    · rfl
    all_goals rw [dropCopy_frame]

/-- Everything the end of FLUSHING can do: outside FLUSHING, or with a flush burst in flight, nothing; else the state that follows
is entered, while bank 0 is OFFLINE after the waiting operations have been answered. -/
theorem flushComplete_cases {s t : State} (h : flushComplete s = some t) :
    s.device = .flushing ∧ flushInFlight s = false ∧
      ((bankOffline s 0 = true ∧ onlyWaiting .a s = true ∧ onlyWaiting .b s = true ∧
          t = leaveFlushing (endWaitNow .b (endWaitNow .a s))) ∨
        (bankOffline s 0 = false ∧ s.billingPending = false ∧ s.dirty = [] ∧ portIdle .a s = true ∧ portIdle .b s = true ∧
          t = leaveFlushing s)) := by
  unfold flushComplete at h
  split at h
  · simp at h
  · next hd =>
    simp only [not_or, Decidable.not_not, Bool.not_eq_true] at hd
    refine ⟨hd.1, hd.2, ?_⟩
    split at h
    · next ho =>
      split at h
      · next hw => simp_all
      · simp at h
    · next ho =>
      split at h
      · next hw => simp_all
      · simp at h

/-- What a record does where it arrives, by the kind of its header (R148, R161). -/
theorem takeInbound_cases (p : Port) (r : InRecord) (s : State) :
    ((inboundKind r.header = .command ∨ inboundKind r.header = .data) ∧ takeInbound p r s = receive p r s) ∨
      (inboundKind r.header = .cancel ∧ takeInbound p r s = if takesControl p s then takeCancel p s else s) ∨
      (inboundKind r.header = .restart ∧ takeInbound p r s = if takesControl p s then takeRestart p s else s) := by
  unfold takeInbound; cases h : inboundKind r.header <;> simp

end Sys2Proof.Machine
end

