-- ==== Sys2Proof/Laws/Medium.lean ====
section
/-!
SUPPORT. The laws of the medium: a slot reads as what was written last, a write leaves every other slot, and every write keeps the
canonical form.
-/

namespace Sys2Proof.Machine

open Sys2Proof

variable {m : List (Nat × SlotContent)}

theorem mediumRead_write_same (n : Nat) (c : SlotContent) (h : mediumWf m = true) :
    mediumRead (mediumWrite m n c) n = c := Assoc.get_put_same n c h

theorem mediumRead_write_other {n k : Nat} (c : SlotContent) (h : k ≠ n) :
    mediumRead (mediumWrite m n c) k = mediumRead m k := Assoc.get_put_other c h

theorem mediumWf_write (n : Nat) (c : SlotContent) (h : mediumWf m = true) : mediumWf (mediumWrite m n c) = true :=
  Assoc.wf_put n c h

/-- The medium of a part that has just been reset for the first time lists nothing. -/
theorem mediumWf_nil : mediumWf [] = true := rfl

/-- A slot that was never written reads as words of all zero (R2). -/
theorem mediumRead_nil (n : Nat) : mediumRead [] n = .words [] := rfl

/-- Everything the end of a burst can do to the medium: nothing where the burst wrote nothing, the whole content where its write
completed, and content of its own number where the write failed. -/
theorem contentAfter_cases (b : Burst) (done : Bool) (s : State) :
    (b.content = none ∧ contentAfter b done s = s) ∨
      (∃ c, b.content = some c ∧ done = true ∧
        contentAfter b done s = { s with medium := mediumWrite s.medium b.slot c }) ∨
      ∃ c, b.content = some c ∧ done = false ∧ contentAfter b done s =
        { s with medium := mediumWrite s.medium b.slot (.unknown s.freeCount), freeCount := s.freeCount + 1 } := by
  cases hc : b.content <;> cases done <;> simp [contentAfter, hc]

/-- The end of a burst keeps the canonical form of the medium. -/
theorem mediumWf_contentAfter (b : Burst) (done : Bool) {s : State} (h : mediumWf s.medium = true) :
    mediumWf (contentAfter b done s).medium = true := by
  rcases contentAfter_cases b done s with ⟨-, e⟩ | ⟨c, -, -, e⟩ | ⟨c, -, -, e⟩ <;> rw [e]
  · exact h
  · exact mediumWf_write _ _ h
  · exact mediumWf_write _ _ h

end Sys2Proof.Machine
end

