-- ==== Sys2Proof/WellFormed.lean ====
section
/-!
DEFINITION. The checks that make a row's operands ones that can occur on the part's pins: a record's header names the kind of
the row and its length field counts the payload (R160), and the errors of a read name words of a tile in rising order.
A command's parameters need no check here: any 32-bit word can be sent, and the part itself refuses what is out of range.
-/

namespace Sys2Proof

/-- A record has as many payload words as its length field gives (chapter 11, section 11.1). -/
def payloadFits (h : Word) (payload : List Word) : Bool := payload.length == headerLength h

/-- The errors of a read: word numbers of a tile, strictly rising, each with at least one wrong bit. -/
def errorsWellFormed : List WordError → Bool
  | [] => true
  | [e] => e.word < 4096 && e.mask != 0
  | e :: f :: rest => e.word < f.word && e.mask != 0 && errorsWellFormed (f :: rest)

def ReadEnd.wellFormed : ReadEnd → Bool
  | .delivered errors => errorsWellFormed errors
  | .mediumFault => true

/-- The operands can occur on the part's pins. -/
def Instr.wellFormed : Instr → Bool
  | .writeCurve _ _ _ _ knots _ => knots.length == 9
  | .unknownCommand _ h payload => headerIsCommand h && !headerIsKnown h && payloadFits h payload
  | .commandRecordReceived _ h payload => headerIsCommand h && payloadFits h payload
  | .dataRecordReceived _ h payload => headerIsData h && payloadFits h payload
  | .strayRecord _ h payload => headerIsData h && payloadFits h payload
  | .cancel _ r => inboundKind r.header == .cancel && payloadFits r.header r.payload
  | .restart _ r => inboundKind r.header == .restart && payloadFits r.header r.payload
  | .prepMarkerReadComplete r => r.wellFormed
  | .loadReadComplete r => r.wellFormed
  | .readMergeComplete r => r.wellFormed
  | .renderReadComplete _ r => r.wellFormed
  | .scrubVisitComplete r => r.wellFormed
  | .relocationReadComplete r => r.wellFormed
  | .openEdition .. | .defineObject .. | .closeEdition .. | .amendEdition .. | .withdrawEdition .. | .putWindow ..
  | .serviceBank .. | .lockEdition .. | .unlockEdition .. | .scrubStrobe .. | .scrubBurst .. | .takeDamage ..
  | .writeFill .. | .orderReprint .. | .takeCharge .. | .openAccount .. | .suspendAccount .. | .resumeAccount ..
  | .closeAccount .. | .setDiscount .. | .readTally .. | .clearTally .. | .writeSchedule .. | .setYear ..
  | .readStatus .. | .readEdition .. | .readObject .. | .listEditions .. | .render .. | .readCurve .. | .readSchedule ..
  | .recordTaken .. | .resetAsserted | .resetReleased | .latchStrapWord .. | .prepProbeComplete ..
  | .formatWriteComplete .. | .powerWarnAsserted | .powerWarnReleased | .burstTimeout | .storeWriteComplete ..
  | .probeComplete .. | .scrubTimerExpiry | .writebackComplete .. | .relocationWriteComplete ..
  | .catalogueFlushComplete .. | .billingFlushComplete .. | .carriedWriteBurstEnd .. | .outboundWordTaken ..
  | .strapBitTaken .. => true

end Sys2Proof
end

