-- ==== Sys2Proof/Tests/Slice0.lean ====
section
/-!
SUPPORT. Tests of the model: the checks of WellFormed, the worked cases of the manual, single steps on small states, and for each
statement with hypotheses a state and operands that meet them.
-/

set_option Elab.async false

namespace Sys2Proof.Tests

open Sys2Proof Sys2Proof.Machine

/-! ## States -/

/-- The state after a step, if there is one. -/
def next? (o : Outcome) : Option State :=
  match o with
  | .next t => some t
  | .fault _ => none
  | .refused _ => none

/-- A part in READY over an archive that holds nothing. -/
def ready : State := { State.reset with device := .ready, prep := .finished }

def theKey : EditionKey := ⟨1950, 6, 15, 1⟩

def keyW : Word := keyWord theKey

def edition (st : EditionState) : EditionRec :=
  { position := 0, key := theKey, state := st, era := 2, resale := .forSale, revision := 3, objects := [⟨0, .page, 1⟩],
    writtenUnderLock := false }

def page : ObjectRec :=
  { number := 0, kind := .page, key := theKey, sequence := 1, width := 1, height := 1, polarity := .print,
    tileMap := [⟨600, true⟩], writtenCount := 1, impairedCount := 0, withheld := false }

/-- The entry of the page's one slot. -/
def pageSlot : SlotEntry := ⟨.assigned, .tile 0 0, true, false, 1, 7, false⟩

/-- One edition with one page of one tile, and a pool of twenty slots. -/
def shelf (st : EditionState) : State :=
  { ready with
    editions := [edition st], objects := [page], slots := [(600, pageSlot)], pool := List.range' 601 20
    accounts := (List.replicate 64 Account.blank).set 5 ⟨.opened, 10, 0, false, 0⟩ }

def lockedBy (st : LockState) : State := { shelf .closed with locks := (List.replicate 8 none).set 0 (some ⟨theKey, st, .a⟩) }

/-- The shelf, with a burst in flight. -/
def during (w : BurstWork) (slot : Nat) (c : Option SlotContent) (s : State) : State :=
  { s with burst := some ⟨w, slot, false, 0, c⟩ }

/-- A store of the whole page, one tile taken whole. -/
def storing : StoreCtx :=
  { tag := 9, object := 0, x0 := 0, x1 := 127, y0 := 0, y1 := 127, axis := .rows, mirror := false, packing := .pack2,
    count := 16384, cursor := 16384, packPhase := 0, wordsTaken := 0, band := 0, bandPhase := .write,
    tiles := [⟨0, true, false, false, 16384, false, []⟩], committed := 0, overrun := false, ending := none }

/-- A render of the top left corner of the page, its tile asked for. -/
def rendering : RenderCtx := { renderStart 9 page 0 3 0 3 1 [] with asked := true }

def entry (n : BitVec 32) (st : EntryState) : JournalEntry :=
  { sequence := n, account := 5, object := 0, key := theKey, revision := 3, sizeClass := 2, rightsClass := 1, quantity := 3,
    band := 1, unit2 := 9113, gross := 27339, saturated := false, damageDiscount := 15, minimum := 500, discount := 10,
    state := st, grade := none, net := 0, discountClamped := false, minApplied := false }

def sellingAt (stage : OrderStage) : State :=
  { shelf .closed with
    journal := [entry 4 .provisional], sequence := 5
    portB := { PortEngine.reset with op := .order ⟨4, stage, rendering⟩, snapshot := some ⟨2, CurveSet.blank⟩ } }

/-! ## WellFormed -/

theorem test_wellFormed_writeCurve : (Instr.writeCurve .a 0 0 0 [] 0).wellFormed = false := by decide
theorem test_wellFormed_unknown_known : (Instr.unknownCommand .a 0x20000A00#32 []).wellFormed = false := by decide
theorem test_wellFormed_unknown_length : (Instr.unknownCommand .a 0x20103F00#32 []).wellFormed = false := by decide
theorem test_wellFormed_command_kind : (Instr.commandRecordReceived .a 0x40000000#32 []).wellFormed = false := by decide
theorem test_wellFormed_command_length : (Instr.commandRecordReceived .a 0x20100300#32 []).wellFormed = false := by decide
theorem test_wellFormed_data_kind : (Instr.dataRecordReceived .a 0x20000000#32 []).wellFormed = false := by decide
theorem test_wellFormed_stray_length : (Instr.strayRecord .a 0x40200000#32 [0]).wellFormed = false := by decide
theorem test_wellFormed_cancel_kind : (Instr.cancel .a ⟨0x80000000#32, []⟩).wellFormed = false := by decide
theorem test_wellFormed_cancel_length : (Instr.cancel .a ⟨0x60200000#32, [0]⟩).wellFormed = false := by decide
theorem test_wellFormed_restart_kind : (Instr.restart .a ⟨0x60000000#32, []⟩).wellFormed = false := by decide
theorem test_wellFormed_restart_length : (Instr.restart .a ⟨0x80200000#32, [0]⟩).wellFormed = false := by decide
theorem test_wellFormed_errors_word : (Instr.scrubVisitComplete (.delivered [⟨4096, 1⟩])).wellFormed = false := by decide
theorem test_wellFormed_errors_mask : (Instr.loadReadComplete (.delivered [⟨0, 0⟩])).wellFormed = false := by decide
theorem test_wellFormed_errors_order :
    (Instr.readMergeComplete (.delivered [⟨5, 1⟩, ⟨5, 2⟩])).wellFormed = false := by decide
theorem test_wellFormed_accepts :
    (Instr.commandRecordReceived .a 0x20100307#32 [keyW]).wellFormed = true ∧
      (Instr.cancel .b ⟨0x60000000#32, []⟩).wellFormed = true ∧ (Instr.restart .b ⟨0x80000000#32, []⟩).wellFormed = true ∧
      (Instr.renderReadComplete .b (.delivered [⟨4095, 1⟩])).wellFormed = true := by decide

/-! ## The table's words: no row gives bits -/

theorem test_decodeTableWord : decodeTableWord 16 0 = none ∧ ready.withFetchWord 16 0 = ready := ⟨rfl, rfl⟩

/-! ## Record layouts (chapter 11) -/

/-- R160: kind 1, length 1, code 3, tag 7: a CLOSE_EDITION. -/
theorem test_header_fields :
    headerKind 0x20100307#32 = 1 ∧ headerLength 0x20100307#32 = 1 ∧ headerCode 0x20100307#32 = 3 ∧
      headerTag 0x20100307#32 = 7#8 := by decide

/-- R161: kinds 2, 3, 4 and 5. -/
theorem test_received_rows :
    receivedRow .b 0x40100000#32 [7] = .dataRecordReceived .b 0x40100000#32 [7] ∧
      receivedRow .b 0x60000000#32 [] = .cancel .b ⟨0x60000000#32, []⟩ ∧
      receivedRow .b 0x80000000#32 [] = .restart .b ⟨0x80000000#32, []⟩ ∧
      receivedRow .b 0xA0000000#32 [] = .commandRecordReceived .b 0xA0000000#32 [] := by decide

/-- R162: 1950-06-15 issue 1: year 1950 = 79Eh in bits 11 to 0, month 6, day 15 = 0Fh, issue 1. -/
theorem test_key_word : keyOf 0x010F679E#32 = theKey ∧ keyWord theKey = 0x010F679E#32 := by decide

/-- R160: a refusal BAD_FIELD (cause 4) of tag 7: kind 5, one payload word, the notes word. -/
theorem test_refusal_words : outWords (refusedRecord 7 .badField []) = [0xA0102307#32, 0] := by decide

/-- R163: a DONE response with an ABSORBED note (bit 4). -/
theorem test_note_words : outWords (doneRecord 7 [.absorbed] []) = [0xA0100007#32, 0x10#32] := by decide

/-- R155, R163: STRAY_DATA, merged, length 2, count 3. -/
theorem test_notice_words : outWords (.notice (.strayData 2 3 true)) = [0xE0100013#32, 0x00030002#32] := by decide

/-- R118: digit strings. -/
theorem test_digits :
    digitsWord 6 4500 = 0x004500#32 ∧ digitsValue 4 0x1938#32 = 1938 ∧ digitsGood 4 0x19A8#32 = false ∧
      tallyWords 9999999999 = [0x99#32, 0x99999999#32] := by decide

/-- R48: three samples of 1, 2 and 3 in a PACK3 word, and 1 and 2 in a PACK2 word, with the ignored bits set. -/
theorem test_packing :
    unpackWord .pack3 0xC0300801#32 = [1, 2, 3] ∧ unpackWord .pack2 0xFC02FC01#32 = [1, 2] := by decide

/-- R164, R165: bit 0 first; 4 banks, A_FIRST, 8 ms, STROBE_ONLY. -/
theorem test_strap :
    strapOf [true, true, true, false, false, true, false, false, false, true, false, false, false, false, false, false] =
      0x0227#16 ∧
    bankCount 0x0227 = 4 ∧ aFirst 0x0227 = true ∧ cadence 0x0227 = 8000 ∧ scrubMode 0x0227 = .strobeOnly := by decide

/-! ## The worked cases of sections 7.5 and 8.10 -/

def steep : List Nat := [0, 0, 0, 0, 0, 150, 190, 0, 255]

theorem test_negative_sample :
    restoreSample ⟨Curve.blank, ⟨steep, -4⟩, 128⟩ .negative 300 = 172 := by decide
theorem test_falling_segment : curveValue [200, 180, 0, 0, 0, 0, 0, 0, 0] 100 = 184 := by decide
theorem test_top_of_steep_segment : restoreSample ⟨⟨steep, 0⟩, Curve.blank, 128⟩ .print 1023 = 253 := by decide
theorem test_default_curve :
    restoreSample CurveSet.blank .print 1023 = 255 ∧ restoreSample CurveSet.blank .print 500 = 125 := by decide
theorem test_lift_clamped : addLift 250 31 = 255 ∧ addLift 10 (-32) = 0 := by decide

def feeSchedule : Schedule :=
  { base := [120, 0, 4500, 0, 0, 0, 0, 250000], bound := [50, 100, 400, 400, 400, 400, 400, 400],
    surcharge := [0, 35, 300, 0, 0, 0, 0, 0], rights := [25, 150, 100, 400], damageDiscount := 15, minimum := 500 }

theorem test_fee_case_1 :
    quote feeSchedule 2000 1938 2 1 3 = ⟨1, 9113, 27339, false⟩ ∧ charge (entry 0 .provisional) .reduced = ⟨20505, false, false⟩ ∧
      charge (entry 0 .provisional) .full = ⟨24606, false, false⟩ := by decide
theorem test_fee_case_2 :
    quote feeSchedule 2000 1800 7 3 30 = ⟨2, 4000000, 99999999, true⟩ ∧
      charge { entry 0 .provisional with gross := 99999999, discount := 0 } .full = ⟨99999999, false, false⟩ := by decide
theorem test_fee_case_3 :
    quote feeSchedule 2000 2000 0 0 1 = ⟨0, 30, 30, false⟩ ∧
      charge { entry 0 .provisional with gross := 30, discount := 50, damageDiscount := 60 } .reduced =
        ⟨500, true, true⟩ := by decide
theorem test_age_bands :
    ageBand [25, 50, 100, 150, 200, 400, 400, 400] 62 = 2 ∧ ageBand [100, 20, 60, 0, 0, 0, 0, 0] 30 = 0 ∧
      ageBand [100, 20, 60, 0, 0, 0, 0, 0] 150 = 7 ∧ orderAge 2000 2001 = 0 := by decide

/-! ## The window of section 3.8 -/

def strip : StoreCtx :=
  { storing with x0 := 100, x1 := 300, y0 := 120, y1 := 135, packing := .pack3, count := 3216, cursor := 0 }

theorem test_strip_bands : strip.bandEnd 0 = 1608 ∧ strip.bandEnd 1 = 3216 ∧ strip.bandTiles 1 = [(0, 1), (1, 1), (2, 1)] := by
  decide
/-- Stream index 2,304 is the 94th sample of row 131. -/
theorem test_strip_position : strip.position 2304 = (193, 131) := by decide

/-! ## Grants (section 4.9) -/

theorem test_grant_run :
    grantState (.port .a) ⟨true, some (.port .a), some .a, 3, true⟩ = ⟨true, some (.port .a), some .a, 4, false⟩ ∧
      grantState .upkeep ⟨true, some (.port .a), some .a, 4, true⟩ = ⟨true, some .upkeep, some .a, 0, false⟩ ∧
      grantState (.port .b) ⟨true, some .upkeep, some .a, 0, true⟩ = ⟨true, some (.port .b), some .b, 1, false⟩ := by decide

/-! ## Single steps -/

/-- R31: the first edition takes position 0, and its group 3 is flushed at once. -/
theorem test_openEdition :
    (next? (exec (.openEdition .a 1 keyW 2 0) ready)).map (fun t => (t.editions.map (·.toEditionImage), t.portA.outq)) =
      some ([⟨0, theKey, .opened, 2, .forSale, 0⟩], [doneRecord 1 [] []]) := by decide +kernel
theorem test_openEdition_flushes :
    (next? (exec (.openEdition .a 1 keyW 2 0) ready)).map (fun t => (t.dirty, t.burst.map (·.slot), t.arbiter.selected)) =
      some ([], some 3, some .upkeep) := by decide +kernel
/-- R10, R33: the new object takes number 1 and the head of the pool. -/
theorem test_defineObject :
    (next? (exec (.defineObject .a 1 keyW 1 4 2 1 1) (shelf .opened))).map
      (fun t => ((t.findObject 1).map (·.tileMap), t.pool.head?, t.portA.outq)) =
      some (some [⟨601, false⟩, ⟨602, false⟩], some 603, [doneRecord 1 [] [1, 601]]) := by decide +kernel
theorem test_defineObject_polarity :
    (next? (exec (.defineObject .a 1 keyW 0 4 1 1 1) (shelf .opened))).map
      (fun t => ((t.findObject 1).map (·.polarity), t.portA.outq)) =
      some (some .print, [doneRecord 1 [.ignored] [1, 601]]) := by decide +kernel
theorem test_closeEdition_incomplete :
    (next? (exec (.closeEdition .a 1 keyW)
      { shelf .opened with objects := [{ page with tileMap := [⟨600, false⟩] }] })).map (·.portA.outq) =
      some [refusedRecord 1 .incomplete [0]] := by decide +kernel
theorem test_closeEdition :
    (next? (exec (.closeEdition .a 1 keyW) (shelf .opened))).map (fun t => t.editions.map (·.state)) = some [.closed] := by
  decide +kernel
theorem test_amendEdition_not_locked :
    (next? (exec (.amendEdition .a 1 keyW 5 1) (shelf .closed))).map (·.portA.outq) =
      some [refusedRecord 1 .notLocked []] := by decide +kernel
theorem test_amendEdition :
    (next? (exec (.amendEdition .a 1 keyW 5 1) (lockedBy .held))).map (fun t => t.editions.map fun e => (e.era, e.resale)) =
      some [(5, .notForResale)] := by decide +kernel
/-- R36: a released slot goes to the tail of the pool with count 0. -/
theorem test_withdrawEdition :
    (next? (exec (.withdrawEdition .a 1 keyW) (shelf .opened))).map
      (fun t => (t.editions.length, t.objects.length, t.pool.getLast?, (t.slot 600).count, t.portA.outq)) =
      some (0, 0, some 600, 0, [doneRecord 1 [] [1, 0]]) := by decide +kernel
/-- R12, R36: a damaged slot is retired. -/
theorem test_withdrawEdition_damaged :
    (next? (exec (.withdrawEdition .a 1 keyW) { shelf .opened with slots := [(600, { pageSlot with damage := true })] })).map
      (fun t => ((t.slot 600).state, t.pool.length, t.portA.outq)) = some (.retired, 20, [doneRecord 1 [] [0, 1]]) := by
  decide +kernel
theorem test_putWindow_range :
    (next? (exec (.putWindow .a 1 0 0 128 0 0 0 0 0) (shelf .opened))).map (·.portA.outq) =
      some [refusedRecord 1 .windowRange []] := by decide +kernel
/-- R52, R64: a partly covered, written tile is read before it is filled. -/
theorem test_putWindow_reads :
    (next? (exec (.putWindow .a 1 0 0 1 0 0 0 0 0) (shelf .opened))).map (fun t => t.burst.map fun b => (b.work, b.slot)) =
      some (some (.storeRead 0, 600)) := by decide +kernel
theorem test_serviceBank_field :
    (next? (exec (.serviceBank .a 1 1) ready)).map (·.portA.outq) = some [refusedRecord 1 .badField []] := by decide +kernel
theorem test_serviceBank_probes :
    (next? (exec (.serviceBank .a 1 0) ready)).map (fun t => t.burst.map fun b => (b.work, b.slot)) =
      some (some (.probe, 0)) := by decide +kernel
theorem test_lockEdition :
    (next? (exec (.lockEdition .a 1 keyW) (shelf .closed))).map (fun t => (lockOf t theKey, t.portA.outq)) =
      some (some .held, [doneRecord 1 [] [3]]) := by decide +kernel
theorem test_lockEdition_pending :
    (next? (exec (.lockEdition .a 1 keyW) (sellingAt (.entryFlush .inBurst)))).map (fun t => (lockOf t theKey, t.portA.outq)) =
      some (some .pending, []) := by decide +kernel
theorem test_unlockEdition :
    (next? (exec (.unlockEdition .a 1 keyW)
      { lockedBy .held with editions := [{ edition .closed with writtenUnderLock := true }] })).map
      (fun t => (lockOf t theKey, t.portA.outq)) = some (none, [doneRecord 1 [] [4, 1]]) := by decide +kernel
/-- R86: a strobe in TIMED mode is ignored, a second one in FALLBACK is absorbed. -/
theorem test_scrubStrobe :
    (next? (exec (.scrubStrobe .a 1) ready)).map (·.portA.outq) = some [doneRecord 1 [.ignored] []] := by decide +kernel
theorem test_scrubBurst_starts :
    (next? (exec (.scrubBurst .a 1 3) ready)).map (fun t => (t.upkeep.burstCount, t.upkeep.cursor, t.burst.map (·.slot))) =
      some (2, 1, some 0) := by decide +kernel
theorem test_takeDamage_empty :
    (next? (exec (.takeDamage .a 1) ready)).map (·.portA.outq) = some [doneRecord 1 [.empty] []] := by decide +kernel
/-- R114: a lift of −40 is held at −32, E0h in two's complement. -/
theorem test_writeCurve :
    (next? (exec (.writeCurve .a 1 3 1 (List.replicate 9 7) 0xD8) ready)).map
      (fun t => ((t.curves.getD 3 CurveSet.blank).negative.lift, t.portA.outq)) =
      some (-32, [doneRecord 1 [.clamped] [0xE0#32]]) := by decide +kernel
theorem test_writeFill :
    (next? (exec (.writeFill .a 1 7 256) ready)).map (·.portA.outq) = some [refusedRecord 1 .badField []] := by decide +kernel
theorem test_orderReprint :
    (next? (exec (.orderReprint .b 1 0 0 0 1 5) (shelf .closed))).map
      (fun t => (t.journal.map (·.state), t.sequence, t.burst.map (·.work))) =
      some ([.provisional], 1, some .billingFlush) := by decide +kernel
theorem test_orderReprint_port :
    (next? (exec (.orderReprint .a 1 0 0 0 1 5) State.reset)).map (·.portA.outq) =
      some [refusedRecord 1 .wrongPort []] := by decide +kernel
theorem test_takeCharge_none :
    (next? (exec (.takeCharge .b 1) ready)).map (·.portB.outq) = some [doneRecord 1 [.noneReady] []] := by decide +kernel
theorem test_openAccount :
    (next? (exec (.openAccount .b 1 63) ready)).map (fun t => (t.accounts.map (·.state)).getLast?) = some (some .opened) := by
  decide +kernel
theorem test_suspendAccount :
    (next? (exec (.suspendAccount .b 1 4) (shelf .closed))).map (·.portB.outq) =
      some [refusedRecord 1 .accountState []] := by decide +kernel
theorem test_setDiscount_digit :
    (next? (exec (.setDiscount .b 1 5 0x0A0) (shelf .closed))).map (·.portB.outq) =
      some [refusedRecord 1 .badDigit []] := by decide +kernel
theorem test_clearTally :
    (next? (exec (.clearTally .b 1 5) (shelf .closed))).map (fun t => t.portB.op) =
      some (.flushWait (doneResponse 1 [] [1, 0x10, 0, 0, 0, 0]) .inBurst) := by decide +kernel
theorem test_writeSchedule :
    (next? (exec (.writeSchedule .b 1 3 3 0x024) ready)).map (fun t => (t.schedule.rights, t.portB.outq)) =
      some ([100, 100, 100, 25], [doneRecord 1 [.clamped] [0x025#32]]) := by decide +kernel
theorem test_setYear :
    (next? (exec (.setYear .b 1 0x1799) ready)).map (·.portB.outq) = some [refusedRecord 1 .badField []] := by decide +kernel
/-- R42: READ_STATUS in PREPARING: 18 words, device state 0, banks 1 to 3 not configured. -/
theorem test_readStatus_preparing :
    (next? (exec (.readStatus .b 1) State.reset)).map (·.portB.outq) =
      some [doneRecord 1 [] ([0, 0, 0xFC] ++ List.replicate 15 0)] := by decide +kernel
theorem test_readEdition_hidden :
    (next? (exec (.readEdition .b 1 keyW) (lockedBy .pending))).map (·.portB.outq) =
      some [refusedRecord 1 .editionLocked []] := by decide +kernel
/-- R39: places 1 and 10 selected: kind PAGE, and a tile map of one written entry. -/
theorem test_readObject :
    (next? (exec (.readObject .a 1 0 0x201) (shelf .closed))).map (·.portA.outq) =
      some [doneRecord 1 [] [0, 0, 1, 0x10258]] := by decide +kernel
theorem test_listEditions :
    (next? (exec (.listEditions .b 1 keyW) (shelf .closed))).map (·.portB.outq) =
      some [doneRecord 1 [] [1, 0x810F679E, 0]] := by decide +kernel
theorem test_render_b_scale :
    (next? (exec (.render .b 1 0 0 7 0 3 1 8) (shelf .closed))).map
      (fun t => t.portB.op.renderCtx.map fun c => (c.scale, c.width, c.height, c.notes)) =
      some (some (4, 2, 1, [.scaled])) := by decide +kernel
theorem test_readCurve :
    (next? (exec (.readCurve .b 1 8) ready)).map (·.portB.outq) = some [refusedRecord 1 .badField []] := by decide +kernel
theorem test_readSchedule :
    (next? (exec (.readSchedule .b 1) ready)).map (fun t => t.portB.outq.map fun r => (outWords r).length) = some [33] := by
  decide +kernel
theorem test_unknownCommand :
    (next? (exec (.unknownCommand .b 0x20003F05#32 []) State.reset)).map (·.portB.outq) =
      some [refusedRecord 5 .unknownCommand []] := by decide +kernel
theorem test_commandRecordReceived :
    (next? (exec (.commandRecordReceived .a 0x20000A05#32 []) ready)).map (·.portA.outq) =
      some [doneRecord 5 [.ignored] []] := by decide +kernel
theorem test_strayRecord :
    (next? (exec (.strayRecord .b 0x40200000#32 [1, 2]) ready)).map (·.portB.outq) =
      some [.notice (.strayData 2 1 false)] := by decide +kernel
theorem test_dataRecordReceived_malformed :
    (next? (exec (.dataRecordReceived .a 0x40000000#32 []) ready)).map (·.portA.outq) =
      some [.notice (.strayData 0 1 false)] := by decide +kernel
theorem test_restart :
    (next? (exec (.restart .a ⟨0x80000000#32, []⟩) (lockedBy .held))).map (fun t => (lockOf t theKey, t.portA.outq)) =
      some (none, [.response ⟨0, .restarted, none, [], []⟩]) := by decide +kernel
theorem test_cancel_order :
    (next? (exec (.cancel .b ⟨0x60000000#32, []⟩) (sellingAt (.entryFlush .waiting)))).map (fun t => (t.journal.map (·.state), t.portB.op)) =
      some ([.void], .idle) := by decide +kernel
theorem test_recordTaken :
    (next? (exec (.recordTaken .a) { ready with portA := { PortEngine.reset with outq := [.data [1]], sent := 1 } })).map
      (fun t => (t.portA.outq, t.portA.sent)) = some ([], 0) := by decide +kernel
theorem test_outboundWordTaken_last :
    exec (.outboundWordTaken .a) { ready with portA := { PortEngine.reset with outq := [.data [1]], sent := 1 } } =
      .fault .nothingPresented := rfl
/-- R165, R21: the sixteenth bit starts the probe of bank 0. -/
theorem test_latchStrapWord :
    (next? (exec (.latchStrapWord false) { State.reset with prep := .strap (List.replicate 15 true) })).map
      (fun t => (t.strap, t.burst.map (·.work))) = some (0x7FFF#16, some .prepProbe) := by decide +kernel
theorem test_prepProbe_faults :
    (next? (exec (.prepProbeComplete .failed) (during .prepProbe 0 none State.reset))).map (·.device) = some .faulted := by
  decide +kernel
theorem test_prepMarker_formats :
    (next? (exec (.prepMarkerReadComplete (.delivered [])) (during .prepMarker 0 none State.reset))).map
      (fun t => t.burst.map fun b => (b.work, b.slot)) = some (some (.prepFormat, 1)) := by decide +kernel
theorem test_formatWrite :
    (next? (exec (.formatWriteComplete .done)
      (during .prepFormat 5 (some (.image (.editions []))) { State.reset with prep := .format 5 }))).map
      (fun t => (mediumRead t.medium 5, t.burst.map (·.slot))) = some (.image (.editions []), some 6) := by decide +kernel
theorem test_loadRead_corrected :
    (next? (exec (.loadReadComplete (.delivered [⟨0, 1⟩])) (during .prepLoad 5 none { State.reset with prep := .load 5 }))).map
      (fun t => (t.dirty, t.burst.map (·.slot))) = some ([5], some 6) := by decide +kernel
/-- R28, R137, R138: what a group of unknown content loads as keeps the laws of its records. -/
theorem test_unknown_records :
    ((fitJournal 5 [entry 9 .provisional, entry 9 .final, entry 9 .provisional]).map fun e => (e.sequence, e.state, e.net)) =
        [(2#32, .void, 0), (3#32, .final, 32807), (4#32, .provisional, 0)] ∧
      (let o := fitObject 7 { page.toObjectImage with polarity := .negative, writtenCount := 9 }
       (o.number, o.polarity, o.width * o.height, o.tileMap.length, o.writtenCount) = (7, .print, 4, 4, 1)) := by decide
/-- R154: a store's response is placed ahead of the notice for a record held outside the queue that its end lets in. -/
theorem test_storeWrite_response_first :
    let full : PortEngine := { PortEngine.reset with
      op := .store storing, inq := List.replicate 8 ⟨0x40100000#32, [0]⟩, held := some ⟨0x40000000#32, []⟩ }
    (next? (exec (.storeWriteComplete .mediumFault)
      (during (.storeWrite 0) 600 (some (.words [])) { shelf .opened with portA := full }))).map (·.portA.outq.drop 1) =
      some [.response ⟨9, .short, some .mediumFault, [], [0]⟩, .notice (.strayData 0 1 false)] := by decide +kernel
/-- R4: the first timeout in an ONLINE bank starts the retry, the second takes the bank OFFLINE. -/
theorem test_burstTimeout_retry :
    (next? (exec .burstTimeout (during (.scrub 0 false) 700 none ready))).map (fun t => t.burst.map (·.retry)) =
      some (some true) := by decide +kernel
theorem test_burstTimeout_offline :
    (next? (exec .burstTimeout { during (.scrub 0 false) 700 none ready with burst := some ⟨.scrub 0 false, 700, true, 0, none⟩ })).map
      (fun t => (t.banks.head?, t.portB.outq.length)) = some (some .offline, 1) := by decide +kernel
/-- R91: the count of a corrected tile rises. -/
theorem test_writeback :
    (next? (exec (.writebackComplete .done) (during (.writeback 1 false) 600 (some (.words [])) (shelf .closed)))).map
      (fun t => ((t.slot 600).count, t.upkeep.buffer)) = some (2, none) := by decide +kernel
/-- R8, R93: the start of a write takes its slot off the relocation list. -/
theorem test_write_start :
    let t := startWrite 600 { shelf .closed with
      slots := [(600, { pageSlot with count := 3, relocationPending := true })], relocations := [700, 600] }
    t.relocations = [700] ∧ t.slot 600 = { pageSlot with generation := 8, count := 0 } ∧ t.dirty = [267] := by decide +kernel
/-- R95: the tile moves to the target, and the old slot is retired. -/
theorem test_relocationWrite :
    (next? (exec (.relocationWriteComplete .done) (during (.relocationWrite 600 false) 601 (some (.words [])) (shelf .closed)))).map
      (fun t => ((t.findObject 0).map (·.tileMap), (t.slot 600).state)) = some (some [⟨601, true⟩], .retired) := by
  decide +kernel
/-- R23, R147: a power warning voids the order in flight. -/
theorem test_powerWarn :
    (next? (exec .powerWarnAsserted (sellingAt .rendering))).map (fun t => (t.device, t.journal.map (·.state))) =
      some (.flushing, [.void]) := by decide +kernel
/-- R24, R84: FLUSHING does not wait for a scrub read in flight, which will place no copy; while bank 0 is OFFLINE the operation
that waits for a billing flush is answered before HALTED is entered. -/
theorem test_powerWarn_halts :
    (next? (exec .powerWarnAsserted (during (.scrub 7 false) 700 none ready))).map (fun t => (t.device, t.burst.map (·.work))) =
        some (.halted, some (.scrub 7 true)) ∧
      (next? (exec .powerWarnAsserted { ready with
        banks := [.offline, .online, .online, .online]
        portB := { PortEngine.reset with op := .flushWait (doneResponse 1 [] []) .waiting } })).map (·.portB.outq) =
        some [.notice (.deviceState .flushing false), .response ⟨1, .cancelled, none, [], []⟩,
          .notice (.deviceState .halted false)] := by decide +kernel
/-- R25: RESET abandons a read and carries a write. -/
theorem test_resetAsserted :
    (next? (exec .resetAsserted (during (.storeWrite 0) 600 (some (.words [])) (shelf .closed)))).map
      (fun t => (t.editions.length, t.burst.map (·.work))) = some (0, some (.carried false)) := by decide +kernel

/-! ## Witnesses: for each statement with hypotheses, a state and operands that meet them -/

theorem witness_StepRunsFrontCommand :
    let s := { during .probe 0 none ready with upkeep := { Upkeep.reset with timerRunning := true, timer := 2000 } }
    s.pending = [] ∧ s.burst = some ⟨.probe, 0, false, 0, none⟩ ∧ s.upkeep.timerRunning = true := by decide

theorem witness_SettlingFrame :
    microStep ready = none ∧ ready.portA.inq = [] ∧ ready.portB.inq = [] ∧ ready.portA.held = none ∧
      ready.portB.held = none := by decide +kernel

/-- The shelf with a lock, a waiting command and every invariant. -/
def waiting : State := { lockedBy .held with pending := [.readStatus .a 1] }

theorem bounded_shelf (s : State)
    (h : s.banks.length = 4 ∧ s.locks.length = 8 ∧ (s.portA.inq.length ≤ 8 ∧ s.portA.outq.length ≤ 16) ∧
      (s.portB.inq.length ≤ 8 ∧ s.portB.outq.length ≤ 16) ∧ s.damage.length ≤ 128 ∧ s.relocations.length ≤ 16 ∧
      s.arbiter.runCount ≤ 4 ∧ s.upkeep.burstCount ≤ 128)
    (ha : s.portA.strayMark = none) (hb : s.portB.strayMark = none) (hu : s.burst = none) : Bounded s := by
  obtain ⟨h1, h2, ⟨h3, h4⟩, ⟨h5, h6⟩, h7⟩ := h
  refine ⟨h1, h2, ⟨h3, h4, ?_⟩, ⟨h5, h6, ?_⟩, h7.1, h7.2.1, h7.2.2.1, h7.2.2.2, ?_⟩
  · simp [ha]
  · simp [hb]
  · simp [hu]

theorem witness_StepKeepsBounds : Bounded waiting ∧ (next? (step waiting)).isSome = true :=
  ⟨bounded_shelf waiting (by decide) rfl rfl rfl, by decide +kernel⟩

theorem witness_StepKeepsLockLaw : LockLaw waiting ∧ (next? (step waiting)).isSome = true :=
  ⟨fun e _ _ => by simp [waiting, lockedBy, shelf, ready, State.reset, PortEngine.reset, Op.edition], by decide +kernel⟩

theorem witness_StepKeepsMediumCanonical :
    let s := { waiting with medium := [(600, .words [(0, 5)])] }
    MediumCanonical s ∧ (next? (step s)).isSome = true := by decide +kernel

theorem witness_OnlyWriteEndsChangeMedium :
    Instr.endsWrite (.readStatus .a 1) = false ∧ (next? (exec (.readStatus .a 1) ready)).isSome = true := by decide +kernel

theorem witness_CommandRecordsSpellCommands : (List.replicate 9 (7 : Word)).length = 9 := by decide

theorem witness_DeviceStateAndPortRefuse :
    (∀ d ∈ [DeviceState.preparing, .flushing, .halted, .faulted], canStart .a { ready with device := d } = true) ∧
      canStart .b ready = true ∧ Instr.judged (.openEdition .b 1 0 0 0) = some (.onlyA, .b, 1) ∧
      Instr.judged (.takeCharge .a 1) = some (.onlyB, .a, 1) ∧ Instr.portFirst (.takeCharge .a 1) = false ∧
      Instr.judged (.orderReprint .a 1 0 0 0 0 0) = some (.onlyB, .a, 1) ∧
      Instr.portFirst (.orderReprint .a 1 0 0 0 0 0) = true ∧
      Instr.judged (.writeCurve .a 1 0 0 (List.replicate 9 0) 0) = some (.onlyA, .a, 1) := by decide +kernel

theorem witness_UnknownRecordsRefused :
    canStart .a ready = true ∧ headerIsKnown 0x20002107#32 = false ∧ headerIsKnown 0x20000307#32 = true ∧
      headerLength 0x20000307#32 ≠ commandLength (headerCode 0x20000307#32) ∧
      { ready with resetAsserted := true }.resetAsserted = true ∧ Instr.inbound (.cancel .a ⟨0x60000000#32, []⟩) = true := by decide +kernel

theorem witness_OpenAndAmendEdition :
    Accepts .a (shelf .closed) ∧ keyInRange (keyOf 0x01016708#32) = true ∧ resaleOf (numberOf 1) = some .notForResale ∧
      (shelf .closed).findEdition (keyOf 0x01016708#32) = none ∧ (∀ e ∈ (shelf .closed).editions, e.position ≠ 1) ∧
      (∀ q < 1, ∃ e ∈ (shelf .closed).editions, e.position = q) ∧
      (Accepts .a (lockedBy .held) ∧ (lockedBy .held).findEdition (keyOf keyW) = some (edition .closed) ∧
        lockOf (lockedBy .held) (keyOf keyW) = some .held) ∧
      (shelf .closed).findEdition (keyOf keyW) = some (edition .closed) ∧ (edition .closed).state = .closed ∧
      lockOf (shelf .closed) (keyOf keyW) ≠ some .held ∧
      (shelf .opened).findEdition (keyOf keyW) = some (edition .opened) ∧ (edition .opened).state = .opened := by decide +kernel

theorem witness_CloseEditionClosesComplete :
    Accepts .a (shelf .opened) ∧ keyInRange (keyOf keyW) = true ∧
      (shelf .opened).findEdition (keyOf keyW) = some (edition .opened) ∧ (edition .opened).objects = [⟨0, .page, 1⟩] ∧
      (shelf .opened).findObject 0 = some page ∧ (∀ m ∈ page.tileMap, m.written = true) ∧
      { edition .opened with objects := [] }.objects = [] ∧
      (let bare := { page with tileMap := [⟨600, true⟩, ⟨601, false⟩] }
       { shelf .opened with objects := [bare] }.findObject 0 = some bare ∧ bare.tileMap[1]? = some ⟨601, false⟩ ∧
        ∀ j < 1, ∀ m ∈ bare.tileMap[j]?, m.written = true) := by decide +kernel

theorem witness_DefineObjectAllocatesSlots :
    Accepts .a (shelf .closed) ∧ Accepts .a (lockedBy .held) ∧ kindOf (numberOf 1) = some .photo ∧
      polarityOf (numberOf 0) = some .print ∧ keyInRange (keyOf keyW) = true ∧
      (lockedBy .held).findEdition (keyOf keyW) = some (edition .closed) ∧ lockOf (lockedBy .held) (keyOf keyW) = some .held ∧
      (∀ r ∈ (edition .closed).objects, ¬ (r.kind = .photo ∧ r.sequence = numberOf 127)) ∧
      (edition .closed).objects.length < 128 ∧ (lockedBy .held).findObject 1 = none ∧
      (∀ m < 1, ((lockedBy .held).findObject m).isSome = true) ∧ numberOf 4 * numberOf 1 + 16 ≤ usableFree (lockedBy .held) ∧
      (lockedBy .held).pool.Nodup := by decide +kernel

/-- The shelf with 128 objects in the edition's list. -/
def crowded : State :=
  { shelf .opened with editions :=
      [{ edition .opened with objects := (List.range 128).map fun i => ⟨i, if i < 64 then .page else .photo, i % 64 + 1⟩ }] }

theorem witness_DefineAndOrderRefusals :
    Accepts .a (shelf .closed) ∧ lockOf (shelf .closed) (keyOf keyW) ≠ some .held ∧
      (edition .opened).objects = [] ++ ⟨0, .page, 1⟩ :: [] ∧
      Accepts .a crowded ∧ ((crowded.findEdition (keyOf keyW)).map (·.objects.length)) = some 128 ∧
      usableFree (shelf .opened) < numberOf 5 * numberOf 1 + 16 ∧ (shelf .opened).findObject 1 = none ∧
      Accepts .b (shelf .closed) ∧ (shelf .closed).findObject (numberOf 8191) = none ∧
      (shelf .closed).findObject (numberOf 0) = some page ∧ (shelf .closed).findEdition page.key = some (edition .closed) ∧
      (shelf .opened).findEdition page.key = some (edition .opened) ∧
      { edition .closed with resale := .notForResale }.resale = .notForResale ∧
      lockOf (lockedBy .pending) page.key ≠ none ∧ ((shelf .closed).account 4).state ≠ .opened ∧
      ((shelf .closed).account 5).state = .opened ∧
      bankOffline { shelf .closed with banks := [.offline, .online, .online, .online] } 0 = true ∧
      128 ≤ (List.replicate 128 (entry 0 .final)).length := by decide +kernel

theorem witness_WithdrawEditionReleasesAll :
    Accepts .a (lockedBy .held) ∧ keyInRange (keyOf keyW) = true ∧
      (lockedBy .held).findEdition (keyOf keyW) = some (edition .closed) ∧ lockOf (lockedBy .held) (keyOf keyW) = some .held ∧
      editionSlots (lockedBy .held) (edition .closed).objects = [600] ∧ 600 ∉ (lockedBy .held).pool ∧
      Assoc.wf slotDefault (lockedBy .held).slots = true ∧ (lockedBy .held).upkeep.buffer = none := by decide +kernel

/-- A copy of a slot that is released, and one of another slot, with a burst in flight for a released slot. -/
theorem witness_WithdrawEditionReleasesAll_upkeep :
    let held (c : Copy) (b : Option Burst) : State :=
      { lockedBy .held with
        slots := [(600, { pageSlot with relocationPending := true }), (621, ⟨.assigned, .relocation 600, false, false, 0, 0, false⟩)]
        relocations := [600], burst := b, upkeep := { Upkeep.reset with buffer := some c } }
    (let s := held ⟨600, 7, [], .relocation 621⟩ none
     Accepts .a s ∧ s.findEdition (keyOf keyW) = some (edition .closed) ∧ lockOf s (keyOf keyW) = some .held ∧
      600 ∈ editionSlots s (edition .closed).objects ∧ (editionSlots s (edition .closed).objects).Nodup ∧
      Assoc.wf slotDefault s.slots = true ∧ s.burst = none) ∧
    (let b : Burst := ⟨.writeback 1 false, 600, false, 0, some (.words [])⟩
     let s := held ⟨700, 7, [], .writeback 1⟩ (some b)
     Accepts .a s ∧ s.burst = some b ∧ 700 ∉ editionSlots s (edition .closed).objects ∧ lockOf s (keyOf keyW) = some .held) := by
  decide +kernel

theorem witness_QueriesAnswerAtOnce :
    Accepts .b (lockedBy .held) ∧ lockOf (lockedBy .held) (keyOf keyW) ≠ none ∧
      (lockedBy .held).findObject (numberOf 0) = some page ∧ canStart .b State.reset = true ∧
      Accepts .b (shelf .closed) ∧ lockOf (shelf .closed) (keyOf keyW) = none := by decide +kernel

theorem witness_ListEditionsInKeyOrder :
    Accepts .b (shelf .closed) ∧ keyInRange (keyOf keyW) = true ∧
      (∀ e ∈ (shelf .closed).editions, keyInRange e.key = true) ∧ ((shelf .closed).editions.map (·.key)).Nodup := by
  decide +kernel

theorem witness_LockEditionHeldOrPending :
    Accepts .a (lockedBy .held) ∧ lockOf (lockedBy .held) (keyOf keyW) ≠ none ∧
      (let s := { shelf .closed with locks := List.replicate 8 (some ⟨⟨1900, 1, 1, 1⟩, .held, .a⟩) }
       Accepts .a s ∧ lockOf s (keyOf keyW) = none ∧ ∀ l ∈ s.locks, l ≠ none) ∧
      lockOf (shelf .closed) (keyOf keyW) = none ∧ (shelf .closed).locks[0]? = some none ∧
      (shelf .closed).portB.op.edition ≠ some (keyOf keyW) ∧
      Accepts .a (sellingAt .rendering) ∧ (sellingAt .rendering).portB.op.edition = some (keyOf keyW) := by decide +kernel

theorem witness_UnlockEditionRaisesRevision :
    Accepts .a (lockedBy .pending) ∧ lockOf (lockedBy .pending) (keyOf keyW) ≠ some .held ∧ Accepts .a (lockedBy .held) ∧
      lockOf (lockedBy .held) (keyOf keyW) = some .held := by decide +kernel

theorem witness_PutWindowStartsStore :
    Accepts .a (lockedBy .held) ∧ axisOf (numberOf 1) = some .columns ∧ mirrorOf (numberOf 1) = some true ∧
      packingOf (numberOf 0) = some .pack3 ∧ (lockedBy .held).findObject (numberOf 0) = some page ∧
      (lockedBy .held).findEdition page.key = some (edition .closed) ∧ lockOf (lockedBy .held) page.key = some .held ∧
      numberOf 127 < page.width * 128 ∧
      strip.x0 ≤ strip.x1 ∧ strip.y0 ≤ strip.y1 ∧ strip.count = (strip.x1 - strip.x0 + 1) * (strip.y1 - strip.y0 + 1) ∧
      (strip.axis, strip.mirror) = (.rows, false) ∧ 200 < strip.x1 - strip.x0 + 1 ∧
      (let c := { strip with axis := .columns, mirror := true, count := 3216 }
       c.count = (c.x1 - c.x0 + 1) * (c.y1 - c.y0 + 1) ∧ 15 < c.y1 - c.y0 + 1) := by decide +kernel

/-- A store of the strip in BAND_FILL, with one record in the input queue. -/
def filling (r : InRecord) : State :=
  { shelf .opened with
    portA := { PortEngine.reset with op := .store { strip with bandPhase := .fill }, inq := [r] } }

theorem witness_PutWindowStartsStore_fill :
    strip.x1 < 3 * 128 ∧ (∀ bt ∈ strip.tiles, tileWf bt.samples = true) ∧ strip.cursor + 0 ≠ strip.count ∧
      (let s := filling ⟨0x40100000#32, [0]⟩
       s.portA.restart = .none ∧ s.portA.inq = ⟨0x40100000#32, [0]⟩ :: [] ∧ headerIsData 0x40100000#32 = true ∧
        s.findObject strip.object = some page) ∧
      (filling ⟨0x20000A00#32, []⟩).portA.restart = .none ∧ headerIsData 0x20000A00#32 = false := by decide +kernel

/-- The shelf while its page's slot is being relocated to slot 621. -/
def relocating : State :=
  { during (.relocationRead 621 7 false false) 600 none (shelf .closed) with
    slots := [(600, pageSlot), (621, ⟨.assigned, .relocation 600, false, false, 0, 0, false⟩)]
    pending := [.relocationReadComplete (.delivered [])] }

theorem relocating_sound : SlotsSound relocating where
  numbersRise := by decide
  tableForm := by decide
  noStoreOnB := by intro c h; cases h
  preparingBuffer := by intro; rfl
  preparingBurst := by intro b h hb; cases h; cases hb
  inReset := by intro h; cases h
  law := fun _ _ =>
    { owned := by
        intro o ho i m hm
        obtain rfl : o = page := by simpa [relocating, during, shelf] using ho
        match i with
        | 0 => cases hm; decide
        | i + 1 => cases hm
      tileSlots := by decide
      poolOnce := by decide
      poolFree := by decide
      listedOnce := by decide
      listed := by
        intro e he r hr
        obtain rfl : e = edition .closed := by simpa [relocating, during, shelf] using he
        obtain rfl : r = ⟨0, .page, 1⟩ := by simpa [edition] using hr
        exact ⟨page, rfl, rfl⟩
      copyTarget := by intro c t h; cases h
      readTarget := by intro b t g d n h hw; cases h; cases hw; exact ⟨rfl, by decide, by decide, by decide⟩
      writeTarget := by intro b o d h hw; cases h; cases hw
      storeSlot := by intro b i h hw; cases h; cases hw }

theorem witness_StepKeepsSlotsSound :
    SlotsSound relocating ∧ (next? (step relocating)).map (fun t => t.burst.map (·.work)) =
      some (some (.relocationWrite 600 false)) :=
  ⟨relocating_sound, by decide +kernel⟩

theorem witness_RenderStartsWithSnapshot :
    Accepts .b (shelf .closed) ∧ Accepts .a (shelf .opened) ∧ numberOf 4 ∈ [1, 2, 4] ∧ numberOf 8 ≤ 8 ∧
      (shelf .closed).findObject (numberOf 0) = some page ∧ (shelf .closed).findEdition page.key = some (edition .closed) ∧
      (edition .closed).state = .closed ∧ lockOf (shelf .closed) page.key = none ∧ numberOf 127 < page.height * 128 ∧
      (let c := { rendering with classes := [(0, .fill)] }
       3 < c.width ∧ (c.classes.find? fun t => t.1 == 0) = some (0, .fill)) ∧
      (let c := { rendering with classes := [(0, .computed [])] }
       (c.classes.find? fun t => t.1 == 0) = some (0, .computed [])) := by decide +kernel

theorem witness_RenderStartsWithSnapshot_emit :
    let c := { rendering with bandPhase := .emit, packPhase := 2, building := 0x0000FFFF#32 }
    let whole := { rendering with bandPhase := .emit, record := List.replicate 256 0 }
    let s (c : RenderCtx) (q : List OutRecord) : State :=
      { shelf .closed with portA := { PortEngine.reset with op := .render c, outq := q, snapshot := some ⟨2, CurveSet.blank⟩ } }
    c.packPhase < 4 ∧ (∀ j < 4, 2 ≤ j → c.building.extractLsb' (8 * j) 8 = (0 : BitVec 8)) ∧
      ((s c []).port .a).op = .render c ∧ c.cancelled = false ∧ portInBurst .a (s c []) = false ∧
      (s c []).findObject c.object = some page ∧ c.record.length ≠ 256 ∧ c.cursor ≠ c.count ∧ c.cursor < c.bandEnd c.band ∧
      ((s whole []).port .a).op = .render whole ∧ whole.record.length = 256 ∧ ((s whole []).port .a).outq.length < 16 ∧
      16 ≤ ((s whole (List.replicate 16 (.data []))).port .a).outq.length := by decide +kernel

theorem witness_SampleArithmetic : steep.length = 9 ∧ (∀ k ∈ steep, k ≤ 255) ∧ 1023 < 1024 := by decide

theorem witness_CurveCommands :
    numberOf 7 ≤ 7 ∧ Accepts .a ready ∧ Accepts .b ready ∧ polarityOf (numberOf 1) = some .negative ∧
      (List.replicate 9 (255 : Word)).all (fun k => decide (numberOf k ≤ 255)) = true := by decide +kernel

theorem witness_ScrubRequests :
    Accepts .a ready ∧ { ready with upkeep := { Upkeep.reset with timerRunning := true } }.upkeep.timerRunning = true := by
  decide +kernel

theorem witness_TakeDamageTakesOldest :
    Accepts .a ready ∧ ready.damage = [] ∧
      (let d : DamageEntry := ⟨0, theKey, .page, 1, some 0⟩
       let s := { shelf .closed with damage := [d], objects := [page, { page with number := 1, withheld := true }], overflow := true }
       Accepts .a s ∧ s.damage = d :: [] ∧ s.objects = [page] ++ { page with number := 1, withheld := true } :: [] ∧
        (∀ q ∈ [page], q.withheld = false)) ∧
      (∀ o ∈ (shelf .closed).objects, o.withheld = false) := by decide +kernel

theorem witness_ServiceBankProbes :
    Accepts .a ready ∧
      (let s := during .probe 0 none { ready with portA := { PortEngine.reset with op := .probe 1 0 true } }
       s.burst = some ⟨.probe, 0, false, 0, none⟩ ∧ s.portA.op = .probe 1 0 true) ∧
      (let d : DamageEntry := ⟨0, theKey, .page, 1, some 0⟩
       let s := during .probe 0 none { shelf .closed with
         banks := [.offline, .online, .online, .online], damage := [d]
         portA := { PortEngine.reset with op := .probe 1 0 true, outq := List.replicate 16 (.data []) } }
       s.burst = some ⟨.probe, 0, false, 0, none⟩ ∧ s.portA.op = .probe 1 0 true ∧
        s.banks.getD (0 / 16384) .online ≠ .online ∧ s.damage[0]? = some d ∧ s.findObject d.object = some page ∧
        page.tileMap.any (fun m => m.slot / 16384 == 0) = true ∧ 16 ≤ (s.port .a).outq.length ∧
        (s.port .b).outq.length < 16 ∧ (s.port .b).bankMark = none) := by decide +kernel

theorem witness_QuoteArithmetic :
    feeSchedule.bound.length = 8 ∧ feeSchedule.base.length = 8 ∧ feeSchedule.surcharge.length = 8 ∧
      feeSchedule.rights.length = 4 ∧ (∀ b ∈ feeSchedule.base, b ≤ 999999) ∧ (∀ p ∈ feeSchedule.surcharge, p ≤ 300) ∧
      (∀ m ∈ feeSchedule.rights, 25 ≤ m ∧ m ≤ 400) ∧ 99999999 < (quote feeSchedule 2000 1800 7 3 30).unit2 * 30 ∧
      (quote feeSchedule 2000 1938 2 1 3).unit2 * 3 ≤ 99999999 := by decide

theorem witness_OrderReprintAccepted :
    let s := shelf .closed
    Accepts .b s ∧ s.findObject (numberOf 0) = some page ∧ s.findEdition page.key = some (edition .closed) ∧
      (edition .closed).state = .closed ∧ (edition .closed).resale = .forSale ∧ lockOf s page.key = none ∧
      (s.account (numberOf 5)).state = .opened ∧ bankOffline s 0 = false ∧ s.journal.length < 128 ∧ numberOf 999 ≤ 999 := by
  decide +kernel

theorem witness_CompletionStepCharges :
    let s := sellingAt .rendering
    s.journal = [] ++ entry 4 .provisional :: [] ∧ (entry 4 .provisional).sequence = 4 ∧
      s.findObject rendering.object = some page ∧ (entry 4 .provisional).account < s.accounts.length := by decide +kernel

/-- The shelf with these entries in the journal. -/
def journalled (j : List JournalEntry) (bank0 : BankState) : State :=
  { shelf .closed with journal := j, banks := [bank0, .online, .online, .online] }

theorem witness_TakeChargeTakesOldest :
    Accepts .b (shelf .closed) ∧ (shelf .closed).journal = [] ∧ Accepts .b (journalled [entry 1 .provisional] .online) ∧
      (entry 1 .provisional).state = .provisional ∧ Accepts .b (journalled [entry 1 .void] .offline) ∧
      bankOffline (journalled [entry 1 .void] .offline) 0 = true ∧ (entry 1 .void).state ≠ .provisional ∧
      bankOffline (journalled [entry 1 .void] .online) 0 = false := by decide +kernel

theorem witness_AccountCommands :
    Accepts .b (shelf .closed) ∧ numberOf 63 ≤ 63 ∧ ((shelf .closed).account (numberOf 5)).state = .opened ∧
      ((shelf .closed).account (numberOf 63)).state = .closed ∧ bankOffline (shelf .closed) 0 = false ∧
      ({ shelf .closed with accounts := List.replicate 64 ⟨.suspended, 0, 0, false, 0⟩ }.account 0).state = .suspended ∧
      digitsGood 3 0x051#32 = true ∧ digitsGood 3 0x05A#32 = false ∧
      (Accepts .b (journalled [] .offline) ∧ bankOffline (journalled [] .offline) 0 = true) := by decide +kernel

theorem witness_WriteScheduleClamps :
    Accepts .b ready ∧ digitsGood 6 0x000401#32 = true ∧ itemOf (numberOf 1) = some .ageBound ∧
      numberOf 7 < itemEntries .ageBound := by decide +kernel

theorem witness_SetYearAndReadSchedule :
    Accepts .b ready ∧ Accepts .a ready ∧ digitsGood 4 0x200A#32 = false ∧ digitsGood 4 0x2200#32 = true ∧
      2199 < digitsValue 4 0x2200#32 ∧ 1800 ≤ digitsValue 4 0x1800#32 ∧ digitsValue 4 0x2199#32 ≤ 2199 ∧
      bankOffline ready 0 = false ∧ Accepts .b (journalled [] .offline) ∧ bankOffline (journalled [] .offline) 0 = true := by
  decide +kernel

/-- A part whose port A has these records in its input queue, and perhaps one held outside it. -/
def queued (q : List InRecord) (h : Option InRecord) : State := { ready with portA := { PortEngine.reset with inq := q, held := h } }

theorem witness_RecordsEnterInputQueue :
    (0x40100000#32).extractLsb' 29 3 = 2 ∧ (0x60000000#32).extractLsb' 29 3 = 3 ∧ (0x80000000#32).extractLsb' 29 3 = 4 ∧
      ((0xE0000000#32).extractLsb' 29 3 ≠ 2 ∧ (0xE0000000#32).extractLsb' 29 3 ≠ 3 ∧ (0xE0000000#32).extractLsb' 29 3 ≠ 4) ∧
      ready.resetAsserted = false ∧ headerIsCommand 0x20000A05#32 = true ∧ headerIsCommand 0x30100000#32 = true ∧ 256 < headerLength 0x30100000#32 ∧
      headerIsData 0x50000000#32 = true ∧ headerLength 0x50000000#32 = 256 ∧ headerLength 0x40000000#32 = 0 ∧
      (queued [] (some ⟨0, []⟩)).portA.held ≠ none ∧ (queued (List.replicate 8 ⟨0, []⟩) none).portA.held = none ∧
      8 ≤ (queued (List.replicate 8 ⟨0, []⟩) none).portA.inq.length ∧ (queued [] none).portA.inq.length < 8 := by decide +kernel

theorem witness_StrayRecordRaisesNotice :
    ready.resetAsserted = false ∧ ready.portA.restart = .none ∧ ready.portA.inq = [] ∧ ready.portA.held = none ∧
      ready.portA.op = .idle ∧ ready.portA.outq.length < 16 ∧ ready.portA.strayMark = none ∧
      16 ≤ (List.replicate 16 (OutRecord.data [])).length ∧
      { PortEngine.reset with strayMark := some ⟨4, 255⟩ }.strayMark = some ⟨4, 255⟩ := by decide +kernel

theorem witness_OutboundWordsLeave :
    let e := { PortEngine.reset with outq := [.data [1, 2]], sent := 1 }
    e.outq = .data [1, 2] :: [] ∧ e.sent + 1 < (outWords (.data [1, 2])).length ∧
      (outWords (.data [1])).length ≤ e.sent + 1 ∧ ready.portA.outq = [] ∧
      { ready with resetAsserted := true }.resetAsserted = true := by decide

theorem witness_CancelEndsOperation :
    let op (o : Op) : State := { ready with portA := { PortEngine.reset with op := o } }
    let sale (stage : OrderStage) (r : RenderCtx) (e : JournalEntry) : State :=
      { sellingAt .rendering with journal := [e], portB := { PortEngine.reset with op := .order ⟨4, stage, r⟩ } }
    headerKind 0x60000000#32 = 3 ∧ ready.resetAsserted = false ∧ ready.portA.held = none ∧ ready.portA.op = .idle ∧
      (op (.respond (doneResponse 1 [] []) none true)).portA.restart = .none ∧
      (op (.store storing)).portA.op = .store storing ∧ storing.ending = none ∧
      { storing with ending := some .short }.ending ≠ none ∧ rendering.cancelled = false ∧ rendering.told.cancelled = true ∧
      portInBurst .a (op (.render rendering)) = false ∧
      portInBurst .a (during (.renderRead .a) 600 none (op (.render rendering))) = true ∧
      (op (.lock 1 theKey)).portA.op = .lock 1 theKey ∧
      (op (.probe 1 0 true)).portA.op = .probe 1 0 true ∧ (op (.probe 1 0 false)).portA.op = .probe 1 0 false ∧
      (op (.flushWait (doneResponse 1 [] []) .waiting)).portA.op = .flushWait (doneResponse 1 [] []) .waiting ∧
      bankOffline ready 0 = false ∧ bankOffline (journalled [] .offline) 0 = true ∧
      (sale (.entryFlush .waiting) rendering (entry 4 .provisional)).journal = [] ++ entry 4 .provisional :: [] ∧
      (entry 4 .provisional).sequence = 4 ∧ (entry 4 .provisional).state = .provisional ∧
      portInBurst .b (sale .rendering rendering (entry 4 .provisional)) = false ∧
      portInBurst .b (during (.renderRead .b) 600 none (sale .rendering rendering (entry 4 .provisional))) = true ∧
      (sale .rendering rendering.told (entry 4 .void)).portB.op = .order ⟨4, .rendering, rendering.told⟩ ∧
      (let s := { sale (.finalFlush .waiting) rendering (entry 4 .final) with banks := [.offline, .online, .online, .online] }
       s.portB.op = .order ⟨4, .finalFlush .waiting, rendering⟩ ∧ bankOffline s 0 = true) := by decide +kernel

theorem witness_RestartReturnsPort :
    let s (r : RestartStage) : State := { lockedBy .held with portA := { PortEngine.reset with restart := r } }
    headerKind 0x80000000#32 = 4 ∧ ready.resetAsserted = false ∧ ready.portA.restart = .none ∧ ready.portA.held = none ∧
      (s .ending).portA.restart ≠ .none ∧ (s .ending).portA.held = none ∧
      portInBurst .a (s .ending) = false ∧ (s .answering).portA.restart = .answering ∧
      (s .answering).portA.outq.length < 16 := by decide +kernel

theorem witness_TileWordsRoundTrip : tileWf [(0, [(0, 1), (127, 1023)]), (127, [(5, 512)])] = true := by decide +kernel

theorem witness_ReadResults :
    (∀ e ∈ [(⟨0, 1⟩ : WordError), ⟨4095, 3⟩], wrongBits e.mask = 1 ∨ wrongBits e.mask = 2) ∧
      (∀ e ∈ [(⟨0, 1⟩ : WordError)], wrongBits e.mask = 1) := by decide +kernel

theorem witness_ReadResults_samples :
    [(⟨0, 1⟩ : WordError), ⟨4095, 3⟩].Pairwise (fun a b => a.word < b.word) ∧ Assoc.wf zeroWord [(0, 5), (4095, 7)] = true ∧
      wrongBits (⟨4095, 3⟩ : WordError).mask = 2 ∧ 16383 / 4 = 4095 ∧ 16383 < 16384 := by decide +kernel

/-- Both ports ask for a burst, and the upkeep engine too where the due flag is set. -/
def contending (due : Bool) (g : Arbiter) (strap : BitVec 16) : State :=
  { shelf .closed with
    arbiter := g, strap := strap, upkeep := { Upkeep.reset with due := due }
    portA := { PortEngine.reset with op := .render rendering }, portB := { PortEngine.reset with op := .render rendering } }

/-- A page of two tile-rows. -/
def tall : ObjectRec := { page with height := 2, tileMap := [⟨600, true⟩, ⟨601, true⟩], writtenCount := 2 }

/-- R68: at the end of a band's last read Port A emits first and asks again only later, so Port B's request is granted, although
A_FIRST is chosen. -/
theorem test_renderRead_gives_way :
    let asks : PortEngine :=
      { PortEngine.reset with op := .render { renderStart 9 tall 0 3 0 255 4 [] with asked := true }, snapshot := some ⟨2, CurveSet.blank⟩ }
    let s := during (.renderRead .a) 600 none { shelf .closed with
      objects := [tall], slots := [(600, pageSlot), (601, { pageSlot with owner := .tile 0 1 })], strap := 4
      arbiter := ⟨true, some (.port .a), some .a, 1, false⟩, portA := asks, portB := asks }
    (next? (exec (.renderReadComplete .a (.delivered [])) s)).map (fun t => t.burst.map fun b => (b.work, b.slot)) =
      some (some (.renderRead .b, 600)) := by decide +kernel

theorem witness_GrantDecision :
    (let s := contending true ⟨false, some (.port .a), some .a, 1, true⟩ 0
     upkeepRequests s = true ∧ s.arbiter.selected = some (.port .a)) ∧
      (let s := contending false ⟨false, some (.port .a), some .a, 4, true⟩ 0
       upkeepRequests s = false ∧ portRequests .a s = true ∧ portRequests .b s = true ∧ aFirst s.strap = false) ∧
      aFirst (contending false Arbiter.reset 4).strap = true ∧
      (let s := contending true ⟨false, some .upkeep, some .b, 0, true⟩ 0
       s.arbiter.selected = some .upkeep ∧ s.arbiter.lastMaster = some .b) ∧
      portRequests .a (shelf .closed) = false ∧ portRequests .b (shelf .closed) = false := by decide +kernel

theorem witness_BurstTimeoutRetriesOnce :
    ready.burst = none ∧
      (let s := during (.scrub 0 false) 700 none ready
       s.burst = some ⟨.scrub 0 false, 700, false, 0, none⟩ ∧ s.banks.getD (700 / 16384) .online = .online) ∧
      (let s := during (.scrub 0 false) 700 none { ready with banks := [.suspect, .online, .online, .online] }
       s.banks.getD (700 / 16384) .online ≠ .online) := by decide +kernel

/-- Each row of R83's table, the groups before and after the one flushed last, and a copy before and after a write to its slot. -/
theorem witness_GrantDecision_work :
    let s (g : Option Nat) (due : Bool) : State :=
      { shelf .closed with dirty := [3, 5], upkeep := { Upkeep.reset with lastGroup := g, due := due } }
    let copying (g : BitVec 8) : State :=
      { shelf .closed with upkeep := { Upkeep.reset with buffer := some ⟨600, g, [], .writeback 1⟩ } }
    (s none false).dirty.Pairwise (· < ·) ∧ bankOffline (s none false) 0 = false ∧ (∀ d ∈ (s none false).dirty, 3 ≤ d) ∧
      ((s (some 3) true).upkeep.lastGroup = some 3 ∧ 3 < 5 ∧ ∀ d ∈ (s (some 3) true).dirty, 3 < d → 5 ≤ d) ∧
      (∀ d ∈ (s (some 5) true).dirty, d ≤ 5) ∧ (s none true).upkeep.due = true ∧ visitSlot (s none true) = some 0 ∧
      (shelf .closed).dirty = [] ∧ (shelf .closed).upkeep.due = false ∧ (shelf .closed).upkeep.burstCount = 0 ∧
      (let r := { shelf .closed with relocations := [600] }
       1 ≤ usableFree r ∧ bankOffline r (600 / 16384) = false ∧ r.relocations = [] ++ 600 :: [] ∧ r.upkeep.buffer = none ∧
        r.billingPending = false ∧ r.device = .ready) ∧
      { s none true with device := .flushing }.device = .flushing ∧ { s none true with billingPending := true }.billingPending = true ∧
      chooseWork (copying 7) = some (.copy ⟨600, 7, [], .writeback 1⟩) ∧ ((copying 7).slot 600).generation = 7 ∧
      chooseWork (copying 6) = some (.copy ⟨600, 6, [], .writeback 1⟩) ∧ ((copying 6).slot 600).generation ≠ 6 ∧
      (copying 6).burst = none := by decide +kernel

theorem witness_WriteBurstEnds :
    let s := during (.storeWrite 0) 600 (some (.words [(0, 5)])) (shelf .closed)
    MediumCanonical s ∧ s.burst = some ⟨.storeWrite 0, 600, false, 0, some (.words [(0, 5)])⟩ := by decide +kernel

theorem witness_StoreWriteEffects :
    let s := during (.storeWrite 0) 600 (some (.words [])) { shelf .opened with portA := { PortEngine.reset with op := .store storing } }
    s.portA.op = .store storing ∧
      (storing.tiles.find? fun t => t.index == 0) = some ⟨0, true, false, false, 16384, false, []⟩ ∧
      s.findObject storing.object = some page ∧ page.tileMap[0]? = some ⟨600, true⟩ ∧ bankOffline s (600 / 16384) = false ∧
      s.portA.restart = .none := by decide +kernel

theorem witness_ReadMergeEffects :
    let s := during (.storeRead 0) 600 none { shelf .opened with portA := { PortEngine.reset with op := .store storing } }
    s.burst = some ⟨.storeRead 0, 600, false, 0, none⟩ ∧ s.portA.op = .store storing ∧ bankOffline s (600 / 16384) = false ∧
      s.portA.restart = .none ∧ (deliver s 600 (.delivered [⟨0, 3⟩])).result = .uncorrectable 0 ∧ s.findObject 0 = some page ∧
      (s.slot 600).state = .assigned ∧ (s.slot 600).owner = .tile 0 0 ∧ (s.slot 600).damage = false ∧
      (deliver s 600 (.delivered [])).result = .clean := by decide +kernel

theorem witness_RenderReadClasses :
    let s := during (.renderRead .b) 600 none (sellingAt .rendering)
    s.burst = some ⟨.renderRead .b, 600, false, 0, none⟩ ∧ (s.port .b).op.renderCtx = some rendering ∧
      s.findObject rendering.object = some page ∧ rendering.nextTile page = some 0 ∧ bankOffline s (600 / 16384) = false := by
  decide +kernel

theorem witness_ScrubVisitOutcomes :
    let s := during (.scrub 7 false) 600 none (shelf .closed)
    s.burst = some ⟨.scrub 7 false, 600, false, 0, none⟩ ∧ bankOffline s (600 / 16384) = false ∧
      (s.slot 600).state = .assigned ∧ (s.slot 600).relocationPending = false ∧ (s.slot 600).damage = false ∧
      (s.slot 700).state = .free ∧ (deliver s 600 (.delivered [⟨0, 1⟩])).result = .corrected 1 ∧
      (deliver s 700 (.delivered [⟨0, 3⟩])).result = .uncorrectable 0 ∧ (deliver s 600 (.delivered [])).result = .clean ∧
      lastGroup s = 270 ∧ s.device = .ready ∧
      (let t := { during (.scrub 7 true) 600 none (shelf .closed) with device := .halted }
       t.burst = some ⟨.scrub 7 true, 600, false, 0, none⟩ ∧ t.device ≠ .ready ∧ bankOffline t (600 / 16384) = false) ∧
      (during (.scrub 7 false) 1 none (shelf .closed)).burst = some ⟨.scrub 7 false, 1, false, 0, none⟩ := by decide +kernel

/-- A visit's start at the cursor, a listed and a worn slot, and a spare slot. -/
theorem witness_ScrubVisitOutcomes_more :
    let worn (r : List Nat) : State := { during (.scrub 7 false) 600 none (shelf .closed) with
      slots := [(600, { pageSlot with count := 3 })], relocations := r }
    0 < configuredSlots ready ∧ ready.upkeep.cursor < configuredSlots ready ∧ visitSlot ready = some 0 ∧
      600 < configuredSlots ready ∧ ((worn []).slot 600).count = 3 ∧ 600 ∉ (worn []).relocations ∧
      (worn []).relocations.length < 16 ∧ 600 ∈ (worn [600]).relocations ∧
      (let s := during (.scrub 0 false) 300 none ready
       s.burst = some ⟨.scrub 0 false, 300, false, 0, none⟩ ∧ lastGroup s < 300 ∧ 300 < 512) := by decide +kernel

/-- A granted write burst and one of a format. -/
theorem witness_WritebackOutcome_starts :
    (let s := { ready with billingPending := true }
     Assoc.wf slotDefault s.slots = true ∧ s.burst = none ∧
      (((grant .upkeep s).burst.bind (·.content)).isSome = true)) ∧
    (let s := { State.reset with prep := .format 5 }
     s.burst = none ∧ (((prepStart s).bind (·.burst)).bind (·.content)).isSome = true) := by decide +kernel

theorem witness_WritebackOutcome :
    let s := during (.writeback 2 false) 600 (some (.words [])) (shelf .closed)
    s.burst = some ⟨.writeback 2 false, 600, false, 0, some (.words [])⟩ ∧ bankOffline s (600 / 16384) = false ∧
      Assoc.wf slotDefault s.slots = true ∧ (s.slot 600).state = .assigned ∧ 600 ∉ s.relocations := by decide +kernel

theorem witness_RelocationMovesTile :
    (let s := during (.relocationRead 601 7 false false) 600 none (shelf .closed)
     s.burst = some ⟨.relocationRead 601 7 false false, 600, false, 0, none⟩ ∧ s.device = .ready ∧
      bankOffline s (600 / 16384) = false ∧ s.upkeep.buffer = none) ∧
    (let s := during (.relocationWrite 600 false) 601 (some (.words [])) (shelf .closed)
     s.burst = some ⟨.relocationWrite 600 false, 601, false, 0, some (.words [])⟩ ∧ (s.slot 600).owner = .tile 0 0 ∧
      s.findObject 0 = some page ∧ 0 < page.tileMap.length ∧ bankOffline s (601 / 16384) = false) := by decide +kernel

theorem witness_FlushOutcomes :
    (during .catalogueFlush 3 (some (.image (.editions []))) ready).burst =
        some ⟨.catalogueFlush, 3, false, 0, some (.image (.editions []))⟩ ∧
      (let s := during .billingFlush 1 (some (.words [])) (sellingAt (.finalFlush .inBurst))
       s.burst = some ⟨.billingFlush, 1, false, 0, some (.words [])⟩ ∧
        s.portB.op = .order ⟨4, .finalFlush .inBurst, rendering⟩ ∧ s.findEntry 4 = some (entry 4 .provisional)) ∧
      (sellingAt (.entryFlush .inBurst)).portB.op = .order ⟨4, .entryFlush .inBurst, rendering⟩ := by
  decide +kernel

theorem witness_ResetDiscardsVolatile :
    ready.resetAsserted = false ∧
      (let s := during (.carried false) 600 (some (.words [(0, 5)])) ready
       MediumCanonical s ∧ s.burst = some ⟨.carried false, 600, false, 0, some (.words [(0, 5)])⟩) := by decide +kernel

theorem witness_StrapWordLatched :
    { State.reset with resetAsserted := true }.resetAsserted = true ∧ State.reset.resetAsserted = false ∧
      (List.replicate 16 true).length = 16 ∧ (List.replicate 15 true).length = 15 ∧
      State.reset.prep = .strap [] ∧ { State.reset with prep := .strap (List.replicate 15 true) }.prep =
        .strap (List.replicate 15 true) ∧ ready.prep = .finished := by decide

theorem witness_PreparationProbesAndMarker :
    (during .prepProbe 0 none State.reset).burst = some ⟨.prepProbe, 0, false, 0, none⟩ ∧
      (during .prepMarker 0 none State.reset).burst = some ⟨.prepMarker, 0, false, 0, none⟩ ∧
      mediumRead [(0, .image (.marker .current))] 0 = .image (.marker .current) ∧
      mediumRead [(0, .image (.marker .other))] 0 = .image (.marker .other) ∧ mediumRead [] 0 = .words [] := by decide +kernel

theorem witness_FormatAndLoadProceed :
    let loading (g : Nat) (c : SlotContent) : State :=
      { during .prepLoad g none State.reset with prep := .load g, medium := [(g, c)] }
    let at' (e : EditionRec) : EditionImage := e.toEditionImage
    (let s := during .prepFormat 0 (some (.image (.marker .current))) State.reset
     MediumCanonical s ∧ s.burst = some ⟨.prepFormat, 0, false, 0, some (.image (.marker .current))⟩) ∧
      (let s := { State.reset with prep := .format 5 }
       s.device = .preparing ∧ s.burst = none ∧ s.prep = .format 5) ∧
      (loading 1 (.words [])).burst = some ⟨.prepLoad, 1, false, 0, none⟩ ∧ 1 ≠ lastGroup State.reset ∧
      (loading (lastGroup State.reset) (.words [])).burst = some ⟨.prepLoad, 270, false, 0, none⟩ ∧
      mediumRead (loading 1 (.image (.billing ⟨[], [], 7, 2000⟩))).medium 1 = .image (.billing ⟨[], [], 7, 2000⟩) ∧
      mediumRead (loading 2 (.image (.settings ⟨[], Schedule.blank, 2001⟩))).medium 2 =
        .image (.settings ⟨[], Schedule.blank, 2001⟩) ∧
      mediumRead (loading 3 (.image (.editions [at' (edition .closed)]))).medium 3 =
        .image (.editions [at' (edition .closed)]) ∧
      ([at' (edition .closed)].map (·.position)).Nodup ∧
      mediumRead (loading 11 (.image (.objects [page.toObjectImage]))).medium 11 = .image (.objects [page.toObjectImage]) ∧
      ([page.toObjectImage].map (·.number)).Nodup ∧
      mediumRead (loading 267 (.image (.marks [⟨600, false, true, 2⟩]))).medium 267 =
        .image (.marks [⟨600, false, true, 2⟩]) ∧
      ([(⟨600, false, true, 2⟩ : SlotMarks)].map (·.slot)).Nodup ∧
      Assoc.wf slotDefault (loading 267 (.image (.marks [⟨600, false, true, 2⟩]))).slots = true ∧
      mediumRead (loading 4 (.words [])).medium 4 = .words [] ∧ bankOffline (loading 267 (.words [])) (267 / 16384) = false ∧
      { loading 4 (.words []) with burst := some ⟨.prepLoad, 4, true, 0, none⟩ }.burst =
        some ⟨.prepLoad, 4, true, 0, none⟩ := by decide +kernel

theorem witness_ReconcileMakesTilesOwned :
    let s := { shelf .closed with objects := [page, { page with number := 1, sequence := 2, tileMap := [⟨600, true⟩, ⟨9, false⟩] }] }
    (s.objects.map (·.number)).Nodup ∧ Assoc.wf slotDefault s.slots = true ∧ (reconcile s).isSome = true := by decide +kernel

/-- The page's edition, with an order in flight on Port B that the state of the part has met in FLUSHING. -/
def flushing (o : Op) (bank0 : BankState) : State :=
  { sellingAt .rendering with
    device := .flushing, banks := [bank0, .online, .online, .online], portB := { PortEngine.reset with op := o } }

theorem witness_PowerWarning :
    let op (o : Op) : State := { ready with portA := { PortEngine.reset with op := o } }
    ready.resetAsserted = false ∧ ready.powerWarn = false ∧ ready.device = .ready ∧ State.reset.device ≠ .ready ∧
      (∃ e ∈ (sellingAt .rendering).journal, e.state = .provisional) ∧ ready.burst = none ∧
      { ready with portA := { PortEngine.reset with restart := .ending } }.portA.restart ≠ .none ∧
      ((op (.store storing)).port .a).op = .store storing ∧ storing.ending = none ∧ rendering.cancelled = false ∧
      portInBurst .a (op (.render rendering)) = false ∧
      portInBurst .a (during (.renderRead .a) 600 none (op (.render rendering))) = true ∧
      ((op (.lock 1 theKey)).port .a).op = .lock 1 theKey ∧ ((op (.probe 1 0 false)).port .a).op = .probe 1 0 false ∧
      ((sellingAt (.entryFlush .waiting)).port .b).op = .order ⟨4, .entryFlush .waiting, rendering⟩ ∧
      (sellingAt .rendering).findEntry 4 = some (entry 4 .provisional) ∧
      ((sellingAt (.finalFlush .waiting)).port .b).op = .order ⟨4, .finalFlush .waiting, rendering⟩ ∧
      (let s := { ready with device := .halted, powerWarn := true }
       s.powerWarn = true ∧ s.device = .halted) ∧ { ready with powerWarn := true }.device ≠ .halted := by decide +kernel

theorem witness_PowerWarning_flush :
    let s := flushing .idle .online
    s.device = .flushing ∧
      (during .catalogueFlush 3 (some (.words [])) s).burst = some ⟨.catalogueFlush, 3, false, 0, some (.words [])⟩ ∧
      s.burst = none ∧ bankOffline s 0 = false ∧ s.billingPending = false ∧ s.dirty = [] ∧
      (∀ p ∈ [Port.a, Port.b], (s.port p).restart = .none ∧ (s.port p).op = .idle) ∧
      (let s := flushing (.order ⟨4, .finalFlush .waiting, rendering⟩) .offline
       bankOffline s 0 = true ∧ (s.port .a).op = .idle ∧ (s.port .b).op = .order ⟨4, .finalFlush .waiting, rendering⟩ ∧
        s.findEntry 4 = some (entry 4 .provisional)) ∧
      ((flushing (.flushWait (doneResponse 1 [] []) .waiting) .offline).port .b).op =
        .flushWait (doneResponse 1 [] []) .waiting := by decide +kernel

end Sys2Proof.Tests
end

section
/-!
PROOF. WRITE_SCHEDULE (R118 to R120): the value of a digit string, the clamping of each item, the command's effect, and O34.
-/

namespace Sys2Proof.Machine

open Sys2Proof

/-! ## Digit strings (R118) -/

theorem digitsValue_eq_sum (n : Nat) (w : Word) :
    digitsValue n w = ((List.range n).map fun i => nibble w i * 10 ^ i).sum := by
  simp only [digitsValue, List.sum_eq_foldr, List.foldr_map, Nat.add_comm]

@[simp] theorem digitsValue_zero (w : Word) : digitsValue 0 w = 0 := rfl

theorem digitsValue_succ (n : Nat) (w : Word) : digitsValue (n + 1) w = digitsValue n w + nibble w n * 10 ^ n := by
  simp only [digitsValue_eq_sum, List.sum_range_succ]

theorem digitsGood_iff {n : Nat} {w : Word} : digitsGood n w = true ↔ ∀ i < n, nibble w i ≤ 9 := by
  simp [digitsGood]

/-- A string of `n` good digits spells a number of at most `n` digits. -/
theorem digitsValue_lt {n : Nat} {w : Word} (h : digitsGood n w = true) : digitsValue n w < 10 ^ n := by
  rw [digitsGood_iff] at h
  induction n with
  | zero => simp
  | succ n ih =>
    have hlow : digitsValue n w < 10 ^ n := ih fun i hi => h i (Nat.lt_succ_of_lt hi)
    have htop : nibble w n * 10 ^ n ≤ 9 * 10 ^ n := Nat.mul_le_mul_right _ (h n (Nat.lt_succ_self n))
    rw [digitsValue_succ, Nat.pow_succ]
    omega

/-! ## The ranges of the items (R120) -/

/-- Six digits cannot leave the range of an amount of money. -/
theorem clampItem_base {v : Nat} (h : v < 10 ^ itemDigits .base) : clampItem .base v = v := by
  simp only [itemDigits] at h; simp only [clampItem, itemRange]; omega

theorem clampItem_minimum {v : Nat} (h : v < 10 ^ itemDigits .minimum) : clampItem .minimum v = v := by
  simp only [itemDigits] at h; simp only [clampItem, itemRange]; omega

theorem clampItem_ageBound (v : Nat) : clampItem .ageBound v = if v ≤ 400 then v else 400 := by
  simp only [clampItem, itemRange]; split_ifs <;> omega

theorem clampItem_surcharge (v : Nat) : clampItem .surcharge v = if v ≤ 300 then v else 300 := by
  simp only [clampItem, itemRange]; split_ifs <;> omega

theorem clampItem_rights (v : Nat) :
    clampItem .rights v = if v < 25 then 25 else if v ≤ 400 then v else 400 := by
  simp only [clampItem, itemRange]; split_ifs <;> omega

theorem clampItem_damageDiscount (v : Nat) : clampItem .damageDiscount v = if v ≤ 90 then v else 90 := by
  simp only [clampItem, itemRange]; split_ifs <;> omega

/-! ## The command (R119) -/

/-- A WRITE_SCHEDULE that passes its checks stores the clamped value, dirties the settings group and is answered at once. -/
theorem writeScheduleRun_of_good {tag : Tag} {item index value : Word} {i : ScheduleItem} {s : State} (hs : Accepts .b s)
    (hv : digitsGood 6 value = true) (hi : itemOf (numberOf item) = some i) (hn : numberOf index < itemEntries i) :
    writeScheduleRun .b tag item index value s = pushOut .b
      (doneRecord tag
        (if clampItem i (digitsValue (itemDigits i) value) = digitsValue (itemDigits i) value then [] else [.clamped])
        [digitsWord (itemDigits i) (clampItem i (digitsValue (itemDigits i) value))])
      (markDirty 2 { s with
        schedule := setItem s.schedule i (numberOf index) (clampItem i (digitsValue (itemDigits i) value)) }) := by
  obtain ⟨hstart, hready⟩ := hs
  rw [writeScheduleRun, whenAdmitted_of_ready hready rfl, if_neg (by simp [hv]), hi]
  dsimp only
  rw [if_neg (Nat.not_le.mpr hn)]
  exact answer_of_place (canStart_hasPlace hstart)

theorem exec_writeSchedule_of_start {tag : Tag} {item index value : Word} {s : State} (h : canStart .b s = true) :
    exec (.writeSchedule .b tag item index value) s = .next (settle (writeScheduleRun .b tag item index value s)) :=
  congrArg Host.Outcome.next (submit_of_start h)

/-- Settles O34: the effect of WRITE_SCHEDULE, with the clamped value of each item as the table of R120 gives it. -/
theorem writeScheduleClamps : Obligations.WriteScheduleClamps := by
  intro tag item index value i s hs hv hi hn
  rw [exec_writeSchedule_of_start hs.1, writeScheduleRun_of_good hs hv hi hn]
  cases i with
  | base => rw [clampItem_base (digitsValue_lt (n := itemDigits .base) hv)]; rfl
  | minimum => rw [clampItem_minimum (digitsValue_lt (n := itemDigits .minimum) hv)]; rfl
  | ageBound => rw [clampItem_ageBound]; rfl
  | surcharge => rw [clampItem_surcharge]; rfl
  | rights => rw [clampItem_rights]; rfl
  | damageDiscount => rw [clampItem_damageDiscount]; rfl

end Sys2Proof.Machine
end

section
/-!
PROOF. The attention lines (R158): when the tables are in use, when the journal's oldest entry is ready, each line's condition,
and O41.
-/

namespace Sys2Proof.Machine

open Sys2Proof

/-! ## The tables' own conditions -/

theorem tablesInUse_iff {s : State} : tablesInUse s = true ↔ s.device ≠ .preparing ∧ s.device ≠ .faulted := by
  simp [tablesInUse]

/-- R146: an entry leaves PROVISIONAL only for FINAL or VOID. -/
theorem entryReady_iff {e : JournalEntry} : entryReady e = true ↔ e.state = .final ∨ e.state = .void := by
  rw [entryReady]
  cases e.state <;> decide

theorem oldestReady_iff {s : State} :
    oldestReady s = true ↔ ∃ e rest, s.journal = e :: rest ∧ (e.state = .final ∨ e.state = .void) := by
  rw [oldestReady]
  cases s.journal with
  | nil => simp
  | cons e rest => simp [entryReady_iff]

/-! ## The lines -/

theorem attnA_iff {s : State} :
    attnA s = true ↔ s.resetAsserted = false ∧ (s.portA.outq ≠ [] ∨ (tablesInUse s = true ∧ s.damage ≠ [])) := by
  simp [attnA]

theorem attnB_iff {s : State} :
    attnB s = true ↔
      s.resetAsserted = false ∧ (s.portB.outq ≠ [] ∨ (tablesInUse s = true ∧ oldestReady s = true)) := by
  simp [attnB]

/-- Settles O41: each line follows its response queue and, where the tables are in use, the damage list (Port A) or the journal's
oldest entry (Port B). -/
theorem attentionLines : Obligations.AttentionLines := by
  intro s
  constructor
  · rw [attnA_iff, tablesInUse_iff, and_comm (b := s.damage ≠ [])]
  · rw [attnB_iff, tablesInUse_iff, oldestReady_iff, and_assoc]

end Sys2Proof.Machine
end

section
/-!
PROOF. The strap word (R19, R164): a two-bit field as arithmetic on the word, the scrub mode of each code, and O56.
-/

namespace Sys2Proof.Machine

open Sys2Proof

variable {w : BitVec 16}

/-- The model reads a two-bit field by division and remainder; the obligation by its bit positions. -/
theorem twoBitField_toNat (k : Nat) : (w.extractLsb' k 2).toNat = w.toNat / 2 ^ k % 4 := by
  rw [BitVec.extractLsb'_toNat, Nat.shiftRight_eq_div_pow]

theorem bankCount_eq_field : bankCount w = (w.extractLsb' 0 2).toNat + 1 := by
  rw [twoBitField_toNat, pow_zero, Nat.div_one, bankCount]

theorem cadence_eq_field : cadence w = 2000 * 2 ^ (w.extractLsb' 4 2).toNat := by
  have hcode : (w.extractLsb' 4 2).toNat = w.toNat / 16 % 4 := twoBitField_toNat 4
  rw [hcode, cadence]

/-- R164: the four codes of bits 9–8, the fourth with the meaning of the third. -/
theorem scrubMode_cases (w : BitVec 16) :
    w.extractLsb' 8 2 = 0 ∧ scrubMode w = .timed ∨
    w.extractLsb' 8 2 = 1 ∧ scrubMode w = .fallback ∨
    (w.extractLsb' 8 2 = 2 ∨ w.extractLsb' 8 2 = 3) ∧ scrubMode w = .strobeOnly := by
  have hcode : (w.extractLsb' 8 2).toNat = w.toNat / 256 % 4 := twoBitField_toNat 8
  rw [scrubMode, ← hcode]
  generalize w.extractLsb' 8 2 = code
  revert code
  decide

theorem scrubMode_eq_timed_iff : scrubMode w = .timed ↔ w.extractLsb' 8 2 = 0 := by
  obtain ⟨hc, hm⟩ | ⟨hc, hm⟩ | ⟨hc | hc, hm⟩ := scrubMode_cases w <;> simp [hc, hm]

theorem scrubMode_eq_fallback_iff : scrubMode w = .fallback ↔ w.extractLsb' 8 2 = 1 := by
  obtain ⟨hc, hm⟩ | ⟨hc, hm⟩ | ⟨hc | hc, hm⟩ := scrubMode_cases w <;> simp [hc, hm]

theorem scrubMode_eq_strobeOnly_iff :
    scrubMode w = .strobeOnly ↔ w.extractLsb' 8 2 = 2 ∨ w.extractLsb' 8 2 = 3 := by
  obtain ⟨hc, hm⟩ | ⟨hc, hm⟩ | ⟨hc | hc, hm⟩ := scrubMode_cases w <;> simp [hc, hm]

/-- Settles O56: the model's reading of each field of the strap word is the table's. -/
theorem strapFields : Obligations.StrapFields := fun _ =>
  ⟨bankCount_eq_field, rfl, cadence_eq_field, scrubMode_eq_timed_iff, scrubMode_eq_fallback_iff,
    scrubMode_eq_strobeOnly_iff⟩

end Sys2Proof.Machine
end

section
/-!
PROOF. What the parts of a step keep.  `Keeps s t` says what a part that ends no write burst keeps; it is closed under composition, so each
operation has one lemma that is put together from those of the operations it calls.
-/

namespace Sys2Proof.Machine

open Sys2Proof

/-- A change from `s` to `t` leaves the medium, and keeps the bounds and the law of the lock table. -/
structure Keeps (s t : State) : Prop where
  medium : t.medium = s.medium
  bounded : Bounded s → Bounded t
  lockLaw : LockLaw s → LockLaw t

theorem Keeps.refl (s : State) : Keeps s s := ⟨rfl, id, id⟩

theorem Keeps.trans {s t u : State} (h : Keeps s t) (k : Keeps t u) : Keeps s u :=
  ⟨k.medium.trans h.medium, k.bounded ∘ h.bounded, k.lockLaw ∘ h.lockLaw⟩

variable {s t u : State} {p : Port}

/-! ## Changes of one part of the state -/

/-- A port may be changed within its bounds, if Port B does not come to an edition with a HELD lock. -/
theorem keeps_modPort {f : PortEngine → PortEngine} (hb : PortBounded (s.port p) → PortBounded (f (s.port p)))
    (ho : p = .b → LockLaw s → ∀ e : LockEntry, some e ∈ s.locks → e.state = .held → (f s.portB).op.edition ≠ some e.key) :
    Keeps s (s.modPort p f) := by
  cases p with
  | a =>
    refine ⟨rfl, fun h => ?_, id⟩
    obtain ⟨h1, h2, h3, h4, h5⟩ := h
    exact ⟨h1, h2, hb h3, h4, h5⟩
  | b =>
    refine ⟨rfl, fun h => ?_, ho rfl⟩
    obtain ⟨h1, h2, h3, h4, h5⟩ := h
    exact ⟨h1, h2, h3, hb h4, h5⟩

/-- A change of a port that leaves its operation. -/
theorem keeps_modPort_of_op {f : PortEngine → PortEngine} (hb : PortBounded (s.port p) → PortBounded (f (s.port p)))
    (ho : (f s.portB).op = s.portB.op) : Keeps s (s.modPort p f) :=
  keeps_modPort hb fun _ hl => by rw [ho]; exact hl

/-- An operation that is on no edition, or on the one its port's operation is on already. -/
theorem keeps_setOp {o : Op} (ho : o.edition = none ∨ o.edition = (s.port p).op.edition) : Keeps s (s.setOp p o) := by
  refine keeps_modPort id fun hp hl e he hs => ?_
  subst hp
  rcases ho with ho | ho
  · simp [ho]
  · change o.edition ≠ _
    rw [ho]
    exact hl e he hs

theorem keeps_setOp_none {o : Op} (ho : o.edition = none) : Keeps s (s.setOp p o) := keeps_setOp (.inl ho)

theorem keeps_respond_none (r : Response) (store : Bool) : Keeps s (respond p r none store s) := keeps_setOp_none rfl

/-- The response of an operation that is on an edition stays on it. -/
theorem keeps_respond_some {k : EditionKey} (r : Response) (store : Bool) (h : (s.port p).op.edition = some k) :
    Keeps s (respond p r (some k) store s) := keeps_setOp (.inr h.symm)

/-- A record goes into a free place of a response queue. -/
theorem keeps_pushOut (r : OutRecord) (h : (s.port p).hasPlace = true) : Keeps s (pushOut p r s) := by
  refine keeps_modPort_of_op (fun hb => ?_) rfl
  obtain ⟨hi, -, hm⟩ := hb
  refine ⟨hi, ?_, hm⟩
  simpa [PortEngine.hasPlace] using h

theorem keeps_answer (r : Response) : Keeps s (answer p r s) := by
  rcases answer_cases (p := p) (s := s) r with ⟨hp, e⟩ | ⟨-, e⟩ <;> rw [e]
  · exact keeps_pushOut _ hp
  · exact keeps_setOp_none rfl

theorem keeps_answerDone (tag : Tag) (ws : List Word) : Keeps s (answerDone p tag ws s) := keeps_answer _

theorem keeps_refuseWith (tag : Tag) (cause : Cause) (ws : List Word) : Keeps s (refuseWith p tag cause ws s) := keeps_answer _

theorem keeps_refuse (tag : Tag) (cause : Cause) : Keeps s (refuse p tag cause s) := keeps_answer _

theorem keeps_awaitFlush (r : Response) : Keeps s (awaitFlush p r s) := keeps_setOp_none rfl

theorem keeps_dropSnapshot : Keeps s (dropSnapshot p s) := keeps_modPort_of_op id rfl

/-- Records leave an input queue from its head. -/
theorem keeps_discardData : Keeps s (s.modPort p fun e => { e with inq := discardData e.inq }) :=
  keeps_modPort_of_op (fun ⟨hi, ho, hm⟩ => ⟨(List.dropWhile_suffix _).length_le.trans hi, ho, hm⟩) rfl

/-! ## Notices and records -/

theorem keeps_raiseBank (b : Nat) : Keeps s (raiseBank b p s) := by
  unfold raiseBank
  split
  · next h => exact keeps_pushOut _ (Bool.and_eq_true_iff.mp h).1
  · exact keeps_modPort_of_op id rfl

theorem keeps_raiseDevice : Keeps s (raiseDevice p s) := by
  unfold raiseDevice
  split
  · next h => exact keeps_pushOut _ (Bool.and_eq_true_iff.mp h).1
  · exact keeps_modPort_of_op id rfl

/-- The STRAY_DATA mark counts from 1 to 255 (R155). -/
theorem mergeStray_count {n : Nat} {m : Option StrayMark} :
    1 ≤ (mergeStray n m).count ∧ (mergeStray n m).count ≤ 255 := by
  cases m <;> simp [mergeStray]

theorem keeps_raiseStray (n : Nat) : Keeps s (raiseStray n p s) := by
  unfold raiseStray
  split
  · next h => exact keeps_pushOut _ (Bool.and_eq_true_iff.mp h).1
  · refine keeps_modPort_of_op (fun ⟨hi, ho, _⟩ => ⟨hi, ho, fun m hm => ?_⟩) rfl
    obtain rfl := Option.some.inj hm
    exact mergeStray_count

theorem keeps_enterRecord {r : InRecord} (h : (s.port p).inq.length < 8) : Keeps s (enterRecord p r s) := by
  have hput (q : InRecord) : Keeps s (s.modPort p fun e => { e with inq := e.inq ++ [q] }) :=
    keeps_modPort_of_op (fun ⟨_, ho, hm⟩ => ⟨by simpa using h, ho, hm⟩) rfl
  unfold enterRecord
  split
  · exact keeps_raiseStray _
  · split
    · exact hput _
    · exact hput _

theorem keeps_receive (r : InRecord) : Keeps s (receive p r s) := by
  rcases receive_cases (p := p) (s := s) r with ⟨-, e⟩ | ⟨-, -, -, e⟩ | ⟨-, -, hl, e⟩ <;> rw [e]
  · exact .refl s
  · exact keeps_modPort_of_op id rfl
  · exact keeps_enterRecord hl

/-! ## Slots, the pool, the relocation list and the damage list -/

theorem keeps_setSlot (n : Nat) (e : SlotEntry) : Keeps s (s.setSlot n e) := ⟨rfl, id, id⟩

theorem keeps_markDirty (g : Nat) : Keeps s (markDirty g s) := ⟨rfl, id, id⟩

theorem keeps_billed : Keeps s s.billed := ⟨rfl, id, id⟩

theorem keeps_modEdition (k : EditionKey) (f : EditionRec → EditionRec) : Keeps s (s.modEdition k f) := ⟨rfl, id, id⟩

/-- The relocation list may be replaced by one that is no longer than its bound. -/
theorem keeps_relocations {l : List Nat} (h : s.relocations.length ≤ 16 → l.length ≤ 16) :
    Keeps s { s with relocations := l } := by
  refine ⟨rfl, fun hb => ?_, id⟩
  obtain ⟨h1, h2, h3, h4, h5, h6, h7⟩ := hb
  exact ⟨h1, h2, h3, h4, h5, h h6, h7⟩

/-- The damage list may be replaced by one that is no longer than its bound. -/
theorem keeps_damage {l : List DamageEntry} (h : s.damage.length ≤ 128 → l.length ≤ 128) : Keeps s { s with damage := l } := by
  refine ⟨rfl, fun hb => ?_, id⟩
  obtain ⟨h1, h2, h3, h4, h5, h6⟩ := hb
  exact ⟨h1, h2, h3, h4, h h5, h6⟩

/-- The upkeep engine may be changed as long as its burst count stays in its range. -/
theorem keeps_upkeep {v : Upkeep} (h : s.upkeep.burstCount ≤ 128 → v.burstCount ≤ 128) : Keeps s { s with upkeep := v } := by
  refine ⟨rfl, fun hb => ?_, id⟩
  obtain ⟨h1, h2, h3, h4, h5, h6, h7, h8, h9⟩ := hb
  exact ⟨h1, h2, h3, h4, h5, h6, h7, h h8, h9⟩

/-- A burst whose timer is in its range may be put in flight. -/
theorem keeps_burst {b : Option Burst} (h : (∀ c, s.burst = some c → c.timer ≤ 500) → ∀ c, b = some c → c.timer ≤ 500) :
    Keeps s { s with burst := b } := by
  refine ⟨rfl, fun hb => ?_, id⟩
  obtain ⟨h1, h2, h3, h4, h5, h6, h7, h8, h9⟩ := hb
  exact ⟨h1, h2, h3, h4, h5, h6, h7, h8, h h9⟩

theorem keeps_arbiter {g : Arbiter} (h : s.arbiter.runCount ≤ 4 → g.runCount ≤ 4) : Keeps s { s with arbiter := g } := by
  refine ⟨rfl, fun hb => ?_, id⟩
  obtain ⟨h1, h2, h3, h4, h5, h6, h7, h8⟩ := hb
  exact ⟨h1, h2, h3, h4, h5, h6, h h7, h8⟩

/-- The lock table may be replaced by one as long in which every HELD entry is on an edition that Port B is not on. -/
theorem keeps_locks {l : List (Option LockEntry)} (hlen : l.length = s.locks.length)
    (h : LockLaw s → ∀ e : LockEntry, some e ∈ l → e.state = .held → s.portB.op.edition ≠ some e.key) :
    Keeps s { s with locks := l } := by
  refine ⟨rfl, fun hb => ?_, h⟩
  obtain ⟨h1, h2, h3⟩ := hb
  exact ⟨h1, hlen.trans h2, h3⟩

theorem keeps_retireSlot (n : Nat) : Keeps s (retireSlot n s) := ⟨rfl, id, id⟩

theorem keeps_returnTarget (n : Nat) : Keeps s (returnTarget n s) := ⟨rfl, id, id⟩

theorem keeps_leaveRelocations (n : Nat) : Keeps s (leaveRelocations n s) := by
  unfold leaveRelocations
  split
  · exact (keeps_setSlot n _).trans (keeps_relocations (List.length_filter_le _ _).trans)
  · exact .refl s

theorem keeps_joinRelocations (n : Nat) : Keeps s (joinRelocations n s) := by
  rcases joinRelocations_cases n s with e | ⟨-, -, -, -, -, hl, e⟩ <;> rw [e]
  · exact .refl s
  · exact (keeps_setSlot n _).trans (keeps_relocations fun _ => by simpa using hl)

theorem keeps_dropCopy : Keeps s (dropCopy s) := by
  rw [dropCopy_frame]
  exact (keeps_upkeep (v := { s.upkeep with buffer := none }) id).trans ⟨rfl, id, id⟩

theorem keeps_dropIfOffline : Keeps s (dropIfOffline s) := by
  unfold dropIfOffline
  split
  · exact .refl s
  · split
    · exact keeps_dropCopy
    · exact .refl s

theorem keeps_startWrite (n : Nat) : Keeps s (startWrite n s) := by
  rw [startWrite_frame]
  exact (keeps_relocations (List.length_filter_le _ _).trans).trans ⟨rfl, id, id⟩

theorem keeps_recountWhere (choose : ObjectRec → Bool) : Keeps s (recountWhere choose s) :=
  (keeps_damage (l := (recountWhere choose s).damage) (by simp [recountWhere])).trans ⟨rfl, id, id⟩

theorem keeps_raiseDamage (n : Nat) : Keeps s (raiseDamage n s) := by
  rw [raiseDamage_frame]
  exact (keeps_damage (raiseDamage_length n s)).trans ⟨rfl, id, id⟩

theorem keeps_recordDamage (n : Nat) : Keeps s (recordDamage n s) := by
  unfold recordDamage
  dsimp only
  split
  · exact (keeps_setSlot n _).trans ((keeps_markDirty _).trans ((keeps_recountWhere _).trans (keeps_raiseDamage _)))
  · exact .refl s

theorem refillFrom_length (os : List ObjectRec) (h : s.damage.length ≤ 128) : (refillFrom os s).damage.length ≤ 128 := by
  induction os generalizing s with
  | nil => exact h
  | cons o rest ih =>
    simp only [refillFrom]
    split
    · next hc =>
      rw [Bool.and_eq_true, decide_eq_true_iff] at hc
      exact ih (by simpa using hc.2)
    · exact ih h

theorem keeps_refillDamage : Keeps s (refillDamage s) := by
  have hf : Keeps s (refillFrom s.objects s) := by
    rw [refillFrom_frame]
    exact (keeps_damage (refillFrom_length _)).trans ⟨rfl, id, id⟩
  unfold refillDamage
  dsimp only
  split
  · exact hf
  · exact hf.trans ⟨rfl, id, id⟩

/-! ## Banks, the journal and the locks -/

theorem keeps_bankCrossed (b : Nat) : Keeps s (bankCrossed b s) := (keeps_recountWhere _).trans keeps_dropIfOffline

theorem keeps_setBank (b : Nat) (st : BankState) : Keeps s (setBank b st s) := by
  have hb : Keeps s { s with banks := s.banks.set b st } := by
    refine ⟨rfl, fun h => ?_, id⟩
    obtain ⟨h1, h2⟩ := h
    exact ⟨by simpa using h1, h2⟩
  have hr := hb.trans ((keeps_raiseBank (p := .a) b).trans (keeps_raiseBank (p := .b) b))
  unfold setBank
  dsimp only
  split
  · exact .refl s
  · split
    · exact hr.trans (keeps_bankCrossed b)
    · exact hr

theorem keeps_voidOrder (n : BitVec 32) : Keeps s (voidOrder n s) := by
  rw [voidOrder_frame]; exact ⟨rfl, id, id⟩

theorem keeps_voidAll : Keeps s (voidAll s) := by
  rw [voidAll_frame]; exact ⟨rfl, id, id⟩

/-- A HELD entry that stands after a removal stood before it. -/
theorem mem_removeLock {k : EditionKey} {e : LockEntry} (h : some e ∈ (removeLock k s).locks) : some e ∈ s.locks := by
  simp only [removeLock, List.mem_map] at h
  obtain ⟨l, hl, he⟩ := h
  rcases l with _ | f
  · simp at he
  · dsimp only at he
    split at he
    · simp at he
    · simpa [← he] using hl

theorem keeps_removeLock (k : EditionKey) : Keeps s (removeLock k s) :=
  keeps_locks (by simp) fun hl e he => hl e (mem_removeLock he)

theorem keeps_releaseHeld (k : EditionKey) : Keeps s (releaseHeld k s) := by
  unfold releaseHeld
  split
  · exact keeps_removeLock k
  · split
    · exact (keeps_removeLock k).trans ⟨rfl, id, id⟩
    · exact keeps_removeLock k

/-- A fold of operations keeps what each of them keeps. -/
theorem keeps_foldl {β : Type} {f : State → β → State} (hf : ∀ s x, Keeps s (f s x)) (l : List β) (s : State) :
    Keeps s (l.foldl f s) := by
  induction l generalizing s with
  | nil => exact .refl s
  | cons x rest ih => exact (hf s x).trans (ih _)

theorem keeps_releaseAll : Keeps s (releaseAll s) := by
  refine keeps_foldl (fun s x => ?_) _ _
  obtain ⟨k, st⟩ := x
  cases st with
  | held => exact keeps_releaseHeld k
  | pending => exact keeps_removeLock k

/-- An entry may become HELD once Port B is on no edition. -/
theorem keeps_holdLock (k : EditionKey) (h : s.portB.op.edition = none) : Keeps s (holdLock k s) :=
  keeps_locks (by simp) fun _ e _ _ => by simp [h]

theorem keeps_lockBecomesHeld (k : EditionKey) (h : s.portB.op.edition = none) : Keeps s (lockBecomesHeld k s) := by
  unfold lockBecomesHeld
  split
  · refine (keeps_holdLock k h).trans ?_
    dsimp only
    split
    · split
      · exact keeps_setOp_none rfl
      · exact .refl _
    · exact .refl _
  · exact .refl s

/-! ## The ends of operations -/

theorem keeps_endOp : Keeps s (endOp p s) := by
  have h : Keeps s (s.modPort p fun e => { e with op := .idle, snapshot := none }) :=
    keeps_modPort id fun _ _ _ _ _ => by simp [Op.edition]
  unfold endOp
  dsimp only
  split
  · exact h.trans (keeps_lockBecomesHeld _ rfl)
  · exact h

theorem keeps_placeResponse {r : Response} (h : placeResponse p r s = some t) : Keeps s t := by
  unfold placeResponse at h
  split at h
  · next hp => obtain rfl := Option.some.inj h; exact (keeps_pushOut _ hp).trans keeps_endOp
  · simp at h

theorem keeps_renderCancelled (c : RenderCtx) (h : (s.port p).op.edition = some c.key) : Keeps s (renderCancelled p c s) :=
  (keeps_respond_some _ _ h).trans keeps_dropSnapshot

theorem keeps_orderCancelled (o : OrderCtx) (h : (s.port p).op.edition = some o.render.key) :
    Keeps s (orderCancelled p o s) := (keeps_respond_some _ _ h).trans keeps_dropSnapshot

theorem keeps_storeFaulted (c : StoreCtx) : Keeps s (storeFaulted c s) := keeps_discardData.trans (keeps_respond_none _ _)

theorem keeps_endWait : Keeps s (endWait p s) := by
  unfold endWait
  split
  · exact keeps_respond_none _ _
  · next o ho =>
    split
    · exact keeps_orderCancelled o (by rw [ho]; rfl)
    · exact .refl s
    · exact .refl s
  all_goals exact .refl s

@[simp] theorem voidOrder_port (n : BitVec 32) (p : Port) (s : State) : (voidOrder n s).port p = s.port p := by
  rw [voidOrder_frame]; cases p <;> rfl

theorem keeps_cancelOp : Keeps s (cancelOp p s) := by
  unfold cancelOp
  dsimp only
  split
  · split
    · exact (keeps_setOp_none rfl).trans keeps_discardData
    · exact .refl s
  · next c hc =>
    split
    · exact .refl s
    · split
      · exact (keeps_setOp (.inr (by rw [hc]; rfl))).trans keeps_discardData
      · exact (keeps_renderCancelled c (by rw [hc]; rfl)).trans keeps_discardData
  · next o ho =>
    have hvoid : Keeps s (orderCancelled p o (voidOrder o.sequence s)) :=
      (keeps_voidOrder _).trans (keeps_orderCancelled o (by rw [voidOrder_port, ho]; rfl))
    split
    · exact hvoid.trans keeps_discardData
    · split
      · exact .refl s
      · split
        · exact (keeps_voidOrder _).trans ((keeps_setOp (.inr (by rw [voidOrder_port, ho]; rfl))).trans keeps_discardData)
        · exact hvoid.trans keeps_discardData
    · exact .refl s
  · exact (keeps_removeLock _).trans ((keeps_respond_none _ _).trans keeps_discardData)
  · exact (keeps_respond_none _ _).trans keeps_discardData
  all_goals exact .refl s

theorem keeps_takeCancel : Keeps s (takeCancel p s) := by
  have hwait : Keeps s (if bankOffline s 0 then (endWait p s).modPort p fun e => { e with inq := discardData e.inq } else s) := by
    split
    · exact keeps_endWait.trans keeps_discardData
    · exact .refl s
  unfold takeCancel
  split
  · exact .refl s
  · split
    · exact hwait
    · split
      · exact hwait
      · exact keeps_cancelOp
      · exact keeps_cancelOp
    · exact .refl s
    · exact keeps_cancelOp
    · exact keeps_cancelOp
    · exact keeps_cancelOp
    · exact keeps_cancelOp
    · exact .refl s

theorem keeps_takeRestart : Keeps s (takeRestart p s) := by
  refine keeps_modPort_of_op (fun ⟨_, ho, hm⟩ => ?_) ?_
  · split
    · refine ⟨by simp, ?_, by simp⟩
      dsimp only
      split
      · simp
      · simp only [List.length_take]; omega
    · exact ⟨by simp, ho, hm⟩
  · split <;> rfl

theorem keeps_restartEnds : Keeps s (restartEnds p s) := by
  have hvoid : Keeps s (match (s.port p).op with | .order o => voidOrder o.sequence s | _ => s) := by
    split
    · exact keeps_voidOrder _
    · exact .refl s
  have hmark (t : State) : Keeps t (t.modPort p fun e => { e with restart := .answering }) := keeps_modPort_of_op id rfl
  refine hvoid.trans ((keeps_endOp (p := p)).trans ?_)
  cases p with
  | a => exact keeps_releaseAll.trans (hmark _)
  | b => exact hmark _

/-! ## Device states -/

theorem keeps_enterState (d : DeviceState) : Keeps s (enterState d s) :=
  (show Keeps s { s with
      device := d
      upkeep := { s.upkeep with timerRunning := d == .ready && scrubMode s.strap != .strobeOnly, timer := 0 } } from
    ⟨rfl, id, id⟩).trans (keeps_raiseDevice.trans keeps_raiseDevice)

theorem keeps_stopUpkeep : Keeps s (stopUpkeep s) := by
  unfold stopUpkeep
  split
  · exact keeps_dropCopy
  · next b hb =>
    have hw (w : BurstWork) : Keeps s { s with burst := some { b with work := w } } :=
      keeps_burst fun h c hc => by obtain rfl := Option.some.inj hc; exact h b hb
    split
    · exact .refl s
    · exact .refl s
    · exact (hw _).trans keeps_dropCopy
    · exact (hw _).trans keeps_dropCopy
    · exact keeps_dropCopy

theorem keeps_powerEnds : Keeps s (powerEnds p s) := by
  unfold powerEnds
  split
  · exact .refl s
  · exact keeps_cancelOp

theorem keeps_enterFlushing : Keeps s (enterFlushing s) :=
  (keeps_enterState _).trans (keeps_powerEnds.trans (keeps_powerEnds.trans (keeps_voidAll.trans keeps_stopUpkeep)))

end Sys2Proof.Machine
end

section
/-!
PROOF. What the moves that the part makes of its own accord keep: the upkeep engine, preparation, the arbiter's grants and the progress of
the operation in flight.
-/

namespace Sys2Proof.Machine

open Sys2Proof

variable {s t u : State} {p : Port}

/-! ## The upkeep engine -/

theorem keeps_startBurst (w : BurstWork) (n : Nat) (c : Option SlotContent) : Keeps s (startBurst w n c s) :=
  keeps_burst fun _ c hc => by obtain rfl := Option.some.inj hc; simp

theorem keeps_noteBurst (k : UpkeepBurst) : Keeps s (noteBurst k s) := keeps_upkeep id

theorem keeps_carryWait : Keeps s (carryWait p s) := by
  unfold carryWait
  split
  · exact keeps_setOp_none rfl
  · next o ho =>
    split
    · exact keeps_setOp (.inr (by rw [ho]; rfl))
    · exact keeps_setOp (.inr (by rw [ho]; rfl))
    · exact .refl s
  all_goals exact .refl s

theorem keeps_startBillingFlush : Keeps s (startBillingFlush s) :=
  (show Keeps s { s with billingPending := false } from ⟨rfl, id, id⟩).trans (keeps_carryWait.trans (keeps_carryWait.trans
    ((keeps_startWrite 1).trans ((keeps_noteBurst _).trans (keeps_startBurst _ _ _)))))

theorem keeps_flushedLast (g : Nat) : Keeps s { s with upkeep := { s.upkeep with lastGroup := some g } } := keeps_upkeep id

theorem keeps_startCatalogueFlush (g : Nat) : Keeps s (startCatalogueFlush g s) :=
  (show Keeps s { s with dirty := s.dirty.filter (· != g) } from ⟨rfl, id, id⟩).trans ((keeps_startWrite g).trans
    ((keeps_noteBurst _).trans ((keeps_flushedLast g).trans (keeps_startBurst _ _ _))))

theorem keeps_startScrub (n : Nat) : Keeps s (startScrub n s) :=
  (keeps_upkeep fun h => (Nat.sub_le _ _).trans h).trans (keeps_startBurst _ _ _)

theorem keeps_startRelocation (old : Nat) : Keeps s (startRelocation old s) := by
  unfold startRelocation
  split
  · exact .refl s
  · next t pool _ =>
    exact (show Keeps s { s.setSlot t { s.slot t with state := .assigned, owner := .relocation old, written := false } with
      pool := pool } from ⟨rfl, id, id⟩).trans ((keeps_noteBurst _).trans (keeps_startBurst _ _ _))

theorem keeps_startCopy (c : Copy) : Keeps s (startCopy c s) := by
  unfold startCopy
  dsimp only
  split
  all_goals exact (keeps_startWrite _).trans ((keeps_noteBurst _).trans (keeps_startBurst _ _ _))

theorem keeps_startWork (w : UpkeepWork) : Keeps s (startWork w s) := by
  cases w with
  | billing => exact keeps_startBillingFlush
  | copy c => exact keeps_startCopy c
  | relocate old => exact keeps_startRelocation old
  | flush g => exact keeps_startCatalogueFlush g
  | scrub n => exact keeps_startScrub n

theorem keeps_startUpkeep : Keeps s (startUpkeep s) := by
  unfold startUpkeep
  split
  · exact .refl s
  · split
    · exact keeps_startCopy _
    · dsimp only
      split
      · exact keeps_dropCopy
      · exact keeps_dropCopy.trans (keeps_startWork _)
  · exact keeps_startWork _

theorem keeps_scrubCatalogue (n : Nat) (r : ReadResult) : Keeps s (scrubCatalogue n r s) := by
  have hdirty : Keeps s (if n = 1 then s.billed else if n ≤ lastGroup s then markDirty n s else s) := by
    split
    · exact keeps_billed
    · split
      · exact keeps_markDirty n
      · exact .refl s
  cases r with
  | corrected => exact hdirty
  | uncorrectable => exact hdirty
  | clean => exact .refl s
  | bankOffline => exact .refl s
  | mediumFault => exact .refl s

theorem keeps_scrubTile (n : Nat) (g : BitVec 8) (noCopy : Bool) (d : Delivery) : Keeps s (scrubTile n g noCopy d s) := by
  unfold scrubTile
  dsimp only
  split
  · split
    · exact (keeps_setSlot n _).trans (keeps_markDirty _)
    · exact .refl s
  · exact keeps_retireSlot n
  · split
    · exact .refl s
    · split
      · exact keeps_upkeep id
      · exact .refl s
  · exact keeps_recordDamage n
  · exact .refl s

theorem keeps_scrubTaken (n : Nat) (g : BitVec 8) (noCopy : Bool) (d : Delivery) : Keeps s (scrubTaken n g noCopy d s) := by
  unfold scrubTaken
  split
  · exact .refl s
  · split
    · exact keeps_scrubCatalogue n _
    · exact (keeps_scrubTile n g noCopy d).trans (keeps_joinRelocations n)

theorem keeps_writebackTaken (n kept : Nat) (dropped done : Bool) : Keeps s (writebackTaken n kept dropped done s) := by
  unfold writebackTaken
  split
  · exact .refl s
  · exact (keeps_setSlot n _).trans ((keeps_markDirty _).trans (keeps_joinRelocations n))

theorem keeps_relocationReadTaken (old target : Nat) (g : BitVec 8) (dropped noCopy : Bool) (d : Delivery) :
    Keeps s (relocationReadTaken old target g dropped noCopy d s) := by
  have hplace (t : State) : Keeps t (if placesCopy noCopy t then
      { t with upkeep := { t.upkeep with buffer := some ⟨old, g, d.samples, .relocation target⟩ } }
      else returnTarget target t) := by
    split
    · exact keeps_upkeep id
    · exact keeps_returnTarget target
  unfold relocationReadTaken
  split
  · exact keeps_returnTarget target
  · dsimp only
    split
    · exact (keeps_recordDamage old).trans (hplace _)
    · exact hplace s

theorem keeps_switchTile (old target object index : Nat) : Keeps s (switchTile old target object index s) := by
  have hmap : Keeps s ((s.setSlot target { s.slot target with
      owner := .tile object index, written := (s.slot old).written, damage := (s.slot old).damage, count := 0 }).modObject object
        fun o => { o with tileMap := o.tileMap.set index ⟨target, (s.slot old).written⟩ }) := ⟨rfl, id, id⟩
  exact hmap.trans ((keeps_leaveRelocations old).trans ((keeps_retireSlot old).trans ((keeps_recountWhere _).trans
    ((keeps_markDirty _).trans (keeps_markDirty _)))))

theorem keeps_relocationWriteTaken (old target : Nat) (dropped done : Bool) :
    Keeps s (relocationWriteTaken old target dropped done s) := by
  unfold relocationWriteTaken
  split
  · exact keeps_returnTarget target
  · split
    · exact keeps_switchTile _ _ _ _
    · exact keeps_returnTarget target

theorem keeps_catalogueFlushTaken (g : Nat) (done : Bool) : Keeps s (catalogueFlushTaken g done s) := by
  unfold catalogueFlushTaken
  split
  · exact .refl s
  · exact keeps_markDirty g

theorem keeps_flushedWait : Keeps s (flushedWait p s) := by
  unfold flushedWait
  split
  · exact keeps_respond_none _ _
  · next o ho =>
    split
    · exact keeps_setOp (.inr (by rw [ho]; rfl))
    · exact keeps_respond_some _ _ (by rw [ho]; rfl)
    all_goals exact .refl s
  · exact .refl s

theorem keeps_unflushedWait : Keeps s (unflushedWait p s) := by
  unfold unflushedWait
  split
  · exact keeps_setOp_none rfl
  · next o ho =>
    split
    · exact keeps_setOp (.inr (by rw [ho]; rfl))
    · exact keeps_setOp (.inr (by rw [ho]; rfl))
    all_goals exact .refl s
  · exact .refl s

theorem keeps_billingFlushTaken (done : Bool) : Keeps s (billingFlushTaken done s) := by
  unfold billingFlushTaken
  split
  · exact keeps_flushedWait.trans keeps_flushedWait
  · exact keeps_unflushedWait.trans (keeps_unflushedWait.trans keeps_billed)

/-! ## Preparation -/

theorem keeps_fail : Keeps s (fail s) := (show Keeps s { s with prep := .finished } from ⟨rfl, id, id⟩).trans (keeps_enterState _)

theorem keeps_prepProbeTaken (bank : Nat) (ok : Bool) : Keeps s (prepProbeTaken bank ok s) := by
  unfold prepProbeTaken
  dsimp only
  split
  · exact (keeps_setBank _ _).trans keeps_fail
  · exact (keeps_setBank _ _).trans ⟨rfl, id, id⟩

theorem keeps_checkEditions : Keeps s (checkEditions s) := by
  refine Keeps.trans (t := { s with editions := [] }) ⟨rfl, id, id⟩ (keeps_foldl (fun s e => ?_) _ _)
  split
  · exact keeps_markDirty _
  · exact ⟨rfl, id, id⟩

theorem keeps_checkObjects : Keeps s (checkObjects s) := by
  refine Keeps.trans (t := { s with objects := [] }) ⟨rfl, id, id⟩ (keeps_foldl (fun s e => ?_) _ _)
  split
  · exact ⟨rfl, id, id⟩
  · exact keeps_markDirty _

theorem keeps_claimTile (object index : Nat) (m : MapEntry) (acc : State × List (Nat × Nat)) :
    Keeps acc.1 (claimTile object index m acc).1 := by
  unfold claimTile
  dsimp only
  split
  · exact keeps_setSlot _ _
  · exact .refl _

/-- A fold that carries a state keeps what each of its operations keeps. -/
theorem keeps_foldl_fst {β γ : Type} {f : State × γ → β → State × γ} (hf : ∀ acc x, Keeps acc.1 (f acc x).1) (l : List β)
    (acc : State × γ) : Keeps acc.1 (l.foldl f acc).1 := by
  induction l generalizing acc with
  | nil => exact .refl _
  | cons x rest ih => exact (hf acc x).trans (ih _)

theorem keeps_claimAll : Keeps s (claimAll s).1 := by
  refine keeps_foldl_fst (fun acc o => ?_) s.objects (s, [])
  exact keeps_foldl_fst (fun acc x => keeps_claimTile o.number x.2 x.1 acc) o.tileMap.zipIdx acc

theorem keeps_placeOrphan {o i : Nat} (h : placeOrphan o i s = some t) : Keeps s t := by
  unfold placeOrphan at h
  split at h
  · simp at h
  · obtain rfl := Option.some.inj h
    exact ⟨rfl, id, id⟩

theorem keeps_placeOrphans {l : List (Nat × Nat)} (h : placeOrphans l s = some t) : Keeps s t := by
  induction l generalizing s with
  | nil => obtain rfl := Option.some.inj h; exact .refl s
  | cons x rest ih =>
    simp only [placeOrphans] at h
    split at h
    · simp at h
    · next v hv => exact (keeps_placeOrphan hv).trans (ih h)

/-- A fold that lists slots one after another lists as many as it is given. -/
theorem relocations_length_foldl (ns : List Nat) (s : State) :
    (ns.foldl (fun s n => { s.setSlot n { s.slot n with relocationPending := true } with
      relocations := s.relocations ++ [n] }) s).relocations.length = s.relocations.length + ns.length := by
  induction ns generalizing s with
  | nil => rfl
  | cons n rest ih => rw [List.foldl_cons, ih]; simp; omega

/-- A fold that lists slots one after another changes the slot table and the relocation list alone. -/
theorem relocations_foldl_frame (ns : List Nat) (s : State) :
    ∃ sl rl, ns.foldl (fun s n => { s.setSlot n { s.slot n with relocationPending := true } with
      relocations := s.relocations ++ [n] }) s = { s with slots := sl, relocations := rl } := by
  induction ns generalizing s with
  | nil => exact ⟨_, _, rfl⟩
  | cons n rest ih =>
    obtain ⟨sl, rl, h⟩ := ih { s.setSlot n { s.slot n with relocationPending := true } with relocations := s.relocations ++ [n] }
    exact ⟨sl, rl, h⟩

theorem keeps_rebuildRelocations : Keeps s (rebuildRelocations s) := by
  unfold rebuildRelocations
  dsimp only
  have hlen := relocations_length_foldl ((s.slots.filterMap fun (x : Nat × SlotEntry) =>
    if 512 ≤ x.1 ∧ x.2.state = .assigned ∧ x.2.count = 3 ∧ slotOffline s x.1 = false then some x.1 else none).take 16)
    { s with relocations := [] }
  obtain ⟨sl, rl, h⟩ := relocations_foldl_frame ((s.slots.filterMap fun (x : Nat × SlotEntry) =>
    if 512 ≤ x.1 ∧ x.2.state = .assigned ∧ x.2.count = 3 ∧ slotOffline s x.1 = false then some x.1 else none).take 16)
    { s with relocations := [] }
  rw [h] at hlen ⊢
  refine (keeps_relocations (l := rl) fun _ => ?_).trans ⟨rfl, id, id⟩
  simp only [List.length_nil, List.length_take] at hlen
  omega

theorem keeps_reconcile (h : reconcile s = some t) : Keeps s t := by
  unfold reconcile at h
  dsimp only at h
  split at h
  · simp at h
  · next v hv =>
    obtain rfl := Option.some.inj h
    have htables : Keeps s (checkObjects (checkEditions (startEntries s))) :=
      (show Keeps s (startEntries s) from ⟨rfl, id, id⟩).trans (keeps_checkEditions.trans keeps_checkObjects)
    have hlists (w : State) : Keeps w (rebuildPool (rebuildLists w)) := ⟨rfl, id, id⟩
    exact htables.trans (keeps_claimAll.trans ((hlists _).trans ((keeps_placeOrphans hv).trans
      ((keeps_recountWhere _).trans keeps_rebuildRelocations))))

theorem keeps_rebuildDamage : Keeps s (rebuildDamage s) :=
  (keeps_damage (l := (rebuildDamage s).damage) (by simp [rebuildDamage])).trans ⟨rfl, id, id⟩

theorem keeps_endPreparation : Keeps s (endPreparation s) := by
  have hyear : Keeps s (reconcileYear s) := by
    unfold reconcileYear
    split
    · exact .refl s
    · exact ⟨rfl, id, id⟩
  have hend (w : State) : Keeps w { w with prep := .finished } := ⟨rfl, id, id⟩
  unfold endPreparation
  split
  · exact keeps_fail
  · next v hv =>
    exact hyear.trans ((keeps_reconcile hv).trans (keeps_voidAll.trans (keeps_rebuildDamage.trans
      ((hend _).trans (keeps_enterState _)))))

end Sys2Proof.Machine
end

section
/-!
PROOF. What the arbiter's grants, the progress of the operations and the records taken from the input queues keep.
-/

namespace Sys2Proof.Machine

open Sys2Proof

variable {s t u : State} {p : Port}

/-! ## The results of a port's bursts -/

theorem keeps_masterDamage (n : Nat) (r : ReadResult) : Keeps s (masterDamage n r s) := by
  unfold masterDamage
  split
  · exact keeps_recordDamage n
  · exact .refl s

theorem keeps_storeReadTaken (i n : Nat) (d : Delivery) : Keeps s (storeReadTaken i n d s) := by
  unfold storeReadTaken
  split
  · split
    · split
      · exact keeps_storeFaulted _
      · exact .refl s
    · exact (keeps_masterDamage n _).trans (keeps_setOp_none rfl)
  · exact .refl s

theorem keeps_storeWriteStart (object n : Nat) : Keeps s (storeWriteStart object n s) := by
  have hcopy (w : State) : Keeps w (match w.upkeep.buffer with
      | some copy => if copy.slot = n then dropCopy w else w
      | none => w) := by
    split
    · split
      · exact keeps_dropCopy
      · exact .refl w
    · exact .refl w
  have hmark (w : State) : Keeps w (match w.findObject object with
      | none => w
      | some o => w.modEdition o.key fun e => { e with writtenUnderLock := e.writtenUnderLock || e.state == .closed }) := by
    split
    · exact .refl w
    · exact keeps_modEdition _ _
  exact (keeps_startWrite n).trans ((hcopy _).trans (hmark _))

theorem keeps_storeWriteEffect (object i n : Nat) (whole : Bool) : Keeps s (storeWriteEffect object i n whole s) := by
  have hfresh (fresh : Bool) (w : State) : Keeps w (if fresh then
      markDirty (objectGroup object) (w.modObject object fun o =>
        { o with tileMap := o.tileMap.set i ⟨n, true⟩, writtenCount := o.writtenCount + 1 }) else w) := by
    split
    · exact ⟨rfl, id, id⟩
    · exact .refl w
  unfold storeWriteEffect
  dsimp only
  split
  · exact (keeps_setSlot n _).trans ((hfresh _ _).trans ((keeps_markDirty _).trans (keeps_recountWhere _)))
  · exact (keeps_setSlot n _).trans (hfresh _ _)

theorem keeps_storeWriteTaken (i n : Nat) (done : Bool) : Keeps s (storeWriteTaken i n done s) := by
  unfold storeWriteTaken
  split
  · split
    · split
      · exact .refl s
      · exact (keeps_storeWriteEffect _ _ _ _).trans (keeps_setOp_none rfl)
    · split
      · exact keeps_storeFaulted _
      · exact .refl s
  · exact .refl s

/-- An operation is on the edition of the render it has in progress. -/
theorem edition_of_renderCtx {o : Op} {c : RenderCtx} (h : o.renderCtx = some c) : o.edition = some c.key := by
  unfold Op.renderCtx at h
  split at h
  · obtain rfl := Option.some.inj h; rfl
  · obtain rfl := Option.some.inj h; rfl
  all_goals simp at h

/-- A render's context of the same edition may take the place of the one in progress. -/
theorem edition_withRender {o : Op} {c : RenderCtx} (d : RenderCtx) (h : o.renderCtx = some c) (hk : d.key = c.key) :
    (o.withRender d).edition = o.edition := by
  rw [edition_of_renderCtx h]
  unfold Op.renderCtx at h
  split at h
  · exact congrArg some hk
  · exact congrArg some hk
  all_goals simp at h

theorem keeps_withRender {c d : RenderCtx} (h : (s.port p).op.renderCtx = some c) (hk : d.key = c.key) :
    Keeps s (s.setOp p ((s.port p).op.withRender d)) := keeps_setOp (.inr (edition_withRender d h hk))

@[simp] theorem takeTile_key (c : RenderCtx) (tile : Nat) (cls : TileClass) (i u : Bool) (n : Nat) :
    (c.takeTile tile cls i u n).key = c.key := rfl

@[simp] theorem takeRead_key (c : RenderCtx) (tile : Nat) (d : Delivery) (damaged : Bool) :
    (c.takeRead tile d damaged).key = c.key := by
  unfold RenderCtx.takeRead; split <;> rfl

theorem recordDamage_port (n : Nat) (s : State) (p : Port) : (recordDamage n s).port p = s.port p := by
  rw [recordDamage_frame]; cases p <;> rfl

theorem masterDamage_port (n : Nat) (r : ReadResult) (s : State) (p : Port) : (masterDamage n r s).port p = s.port p := by
  unfold masterDamage
  split
  · exact recordDamage_port n s p
  · rfl

theorem keeps_renderReadTaken (n : Nat) (d : Delivery) : Keeps s (renderReadTaken p n d s) := by
  unfold renderReadTaken
  split
  · exact .refl s
  · next c hc =>
    split
    · exact .refl s
    · split
      · exact .refl s
      · refine (keeps_masterDamage n d.result).trans (keeps_setOp (.inr ?_))
        rw [masterDamage_port, edition_withRender _ hc (takeRead_key ..)]

theorem keeps_probeTaken (bank : Nat) (ok : Bool) : Keeps s (probeTaken bank ok s) := by
  unfold probeTaken
  dsimp only
  split
  · exact (keeps_setBank _ _).trans (keeps_respond_none _ _)
  · exact keeps_setBank _ _

/-! ## Grants -/

theorem keeps_granted (r : Requester) : Keeps s (granted r s) := by
  refine keeps_arbiter fun h => ?_
  cases r with
  | upkeep => simp [grantState]
  | port m =>
    simp only [grantState]
    split <;> omega

theorem keeps_grantPort : Keeps s (grantPort p s) := by
  have hburst (w : BurstWork) (n : Nat) (c : Option SlotContent) (v : State) :
      Keeps v (startBurst w n c (granted (.port p) v)) := (keeps_granted _).trans (keeps_startBurst _ _ _)
  unfold grantPort
  split
  · split
    · split
      · exact .refl s
      · dsimp only
        split
        · exact keeps_storeReadTaken _ _ _
        · exact hburst _ _ _ s
    · exact .refl s
    · split
      · exact .refl s
      · dsimp only
        split
        · exact keeps_storeWriteTaken _ _ _
        · exact (keeps_storeWriteStart _ _).trans (hburst _ _ _ _)
  · exact (keeps_setOp_none rfl).trans (hburst _ _ _ _)
  · split
    · exact .refl s
    · split
      · exact .refl s
      · split
        · exact .refl s
        · dsimp only
          split
          · exact keeps_renderReadTaken _ _
          · exact hburst _ _ _ s

theorem keeps_grant (r : Requester) : Keeps s (grant r s) := by
  cases r with
  | port q => exact keeps_grantPort
  | upkeep =>
    unfold grant
    dsimp only
    split
    · exact keeps_startUpkeep.trans (keeps_granted _)
    · exact keeps_startUpkeep

theorem keeps_notDeciding : Keeps s { s with arbiter := { s.arbiter with deciding := false } } := keeps_arbiter id

theorem keeps_freeCount (n : Nat) : Keeps s { s with freeCount := n } := ⟨rfl, id, id⟩

theorem keeps_arbitrate (h : arbitrate s = some t) : Keeps s t := by
  unfold arbitrate at h
  split at h
  · simp at h
  · split at h
    · split at h
      · obtain rfl := Option.some.inj h; exact keeps_notDeciding
      · simp at h
    · split at h
      · split at h
        · obtain rfl := Option.some.inj h; exact keeps_grant _
        · obtain rfl := Option.some.inj h; exact keeps_notDeciding
      · split at h
        · simp at h
        · obtain rfl := Option.some.inj h; exact keeps_grant _
        · obtain rfl := Option.some.inj h; exact (keeps_freeCount _).trans (keeps_grant _)

/-! ## The operations in flight -/

theorem keeps_advanceStore {c : StoreCtx} (h : advanceStore c s = some t) : Keeps s t := by
  unfold advanceStore at h
  split at h
  · split at h
    · split at h
      · simp at h
      · obtain rfl := Option.some.inj h; exact keeps_respond_none _ _
    · split at h
      · simp at h
      · obtain rfl := Option.some.inj h; exact keeps_setOp_none rfl
  · split at h
    · simp at h
    · next r rest hq =>
      split at h
      · obtain rfl := Option.some.inj h
        have hrest (h8 : s.portA.inq.length ≤ 8) : rest.length ≤ 8 := by
          rw [hq] at h8; exact (Nat.le_succ _).trans h8
        have htaken (gone : Bool) (h8 : s.portA.inq.length ≤ 8) : (if gone then rest else s.portA.inq).length ≤ 8 := by
          cases gone with
          | false => exact h8
          | true => exact hrest h8
        exact keeps_modPort (fun ⟨hi, ho, hm⟩ => ⟨htaken _ hi, ho, hm⟩) (by simp)
      · obtain rfl := Option.some.inj h; exact keeps_setOp_none rfl
  · split at h
    · simp at h
    · split at h
      · obtain rfl := Option.some.inj h; exact keeps_respond_none _ _
      · split at h
        · obtain rfl := Option.some.inj h; exact keeps_respond_none _ _
        · split at h
          · simp at h
          · obtain rfl := Option.some.inj h; exact keeps_setOp_none rfl

theorem keeps_completeOrder (o : OrderCtx) (h : (s.port p).op.edition = some o.render.key) : Keeps s (completeOrder p o s) := by
  unfold completeOrder
  split
  · exact keeps_setOp (.inr h.symm)
  · next e he =>
    refine Keeps.trans (t := { s with journal := _, billingPending := true, accounts := _ }) ⟨rfl, id, id⟩ (keeps_setOp (.inr ?_))
    cases p <;> exact h.symm

theorem keeps_renderDone {c : RenderCtx} (h : (s.port p).op.renderCtx = some c) : Keeps s (renderDone p c s) := by
  have hed := edition_of_renderCtx h
  unfold renderDone
  split
  · next o ho => exact (keeps_completeOrder o (by rw [ho]; rfl)).trans keeps_dropSnapshot
  · exact (keeps_respond_some _ _ hed).trans keeps_dropSnapshot

theorem keeps_renderStopped {c : RenderCtx} (h : (s.port p).op.renderCtx = some c) : Keeps s (renderStopped p c s) := by
  unfold renderStopped
  split
  · next o ho => exact keeps_orderCancelled o (by rw [ho]; rfl)
  · exact keeps_renderCancelled c (edition_of_renderCtx h)

@[simp] theorem turnTile_key (c : RenderCtx) (o : ObjectRec) (tile : Nat) (s : State) : (turnTile c o tile s).key = c.key := by
  unfold turnTile
  dsimp only
  split
  · rfl
  · split <;> rfl

@[simp] theorem packSample_key (c : RenderCtx) (v : Nat) : (c.packSample v).key = c.key := by
  unfold RenderCtx.packSample
  dsimp only
  split <;> rfl

@[simp] theorem packMany_key (o : ObjectRec) (set : CurveSet) (n : Nat) (c : RenderCtx) :
    (RenderCtx.packMany o set n c).key = c.key := by
  induction n generalizing c with
  | zero => rfl
  | succ n ih => exact (ih _).trans (packSample_key c _)

@[simp] theorem emit_key (c : RenderCtx) (o : ObjectRec) (set : CurveSet) : (c.emit o set).key = c.key := by
  unfold RenderCtx.emit
  dsimp only
  split
  · unfold RenderCtx.closeWord
    split <;> simp
  · simp

theorem pushOut_op (p q : Port) (r : OutRecord) (s : State) : ((pushOut p r s).port q).op = (s.port q).op := by
  cases p <;> cases q <;> rfl

theorem keeps_advanceEmit {c : RenderCtx} {o : ObjectRec} (hc : (s.port p).op.renderCtx = some c)
    (h : advanceEmit p c o s = some t) : Keeps s t := by
  unfold advanceEmit at h
  dsimp only at h
  split at h
  · split at h
    · next hp =>
      obtain rfl := Option.some.inj h
      refine (keeps_pushOut _ hp).trans (keeps_setOp (.inr ?_))
      rw [edition_withRender (c := c) _ hc (by rfl), pushOut_op]
    · simp at h
  · split at h
    · obtain rfl := Option.some.inj h; exact keeps_renderDone hc
    · split at h
      · split at h
        · simp at h
        · obtain rfl := Option.some.inj h; exact keeps_withRender hc (emit_key ..)
      · obtain rfl := Option.some.inj h; exact keeps_withRender hc (by rfl)

theorem keeps_advanceRender {c : RenderCtx} (hc : (s.port p).op.renderCtx = some c) (h : advanceRender p c s = some t) :
    Keeps s t := by
  unfold advanceRender at h
  split at h
  · simp at h
  · split at h
    · obtain rfl := Option.some.inj h; exact keeps_renderStopped hc
    · split at h
      · simp at h
      · split at h
        · split at h
          · simp at h
          · split at h
            · obtain rfl := Option.some.inj h; exact keeps_withRender hc (turnTile_key ..)
            · obtain rfl := Option.some.inj h; exact keeps_withRender hc (by rfl)
        · exact keeps_advanceEmit hc h

theorem keeps_setRestart (r : RestartStage) : Keeps s (s.modPort p fun e => { e with restart := r }) := keeps_modPort_of_op id rfl

theorem keeps_advanceRestart (h : advanceRestart p s = some t) : Keeps s t := by
  unfold advanceRestart at h
  split at h
  · simp at h
  · split at h
    · simp at h
    · obtain rfl := Option.some.inj h; exact keeps_restartEnds
  · split at h
    · next hp => obtain rfl := Option.some.inj h; exact (keeps_pushOut _ hp).trans (keeps_setRestart _)
    · simp at h

/-- The move of an operation in flight is that of a RESTART, of a store or of a render in progress. -/
theorem advance_cases (h : advance p s = some t) :
    ((s.port p).restart ≠ .none ∧ advanceRestart p s = some t) ∨
      ((s.port p).restart = .none ∧
        ((∃ c, (s.port p).op = .store c ∧ advanceStore c s = some t) ∨
          ∃ c, (s.port p).op.renderCtx = some c ∧ advanceRender p c s = some t)) := by
  unfold advance at h
  split at h
  · next hr => exact .inl ⟨hr, h⟩
  · next hr =>
    refine .inr ⟨Decidable.not_not.mp hr, ?_⟩
    split at h
    · next c hc => exact .inl ⟨c, hc, h⟩
    · next c hc => exact .inr ⟨c, by rw [hc]; rfl, h⟩
    · next c hc => exact .inr ⟨c, by rw [hc]; rfl, h⟩
    all_goals simp at h

theorem keeps_advance (h : advance p s = some t) : Keeps s t := by
  rcases advance_cases h with ⟨-, h⟩ | ⟨-, ⟨c, -, h⟩ | ⟨c, hc, h⟩⟩
  · exact keeps_advanceRestart h
  · exact keeps_advanceStore h
  · exact keeps_advanceRender hc h

/-! ## Notices and the end of FLUSHING -/

theorem keeps_placeMark (h : placeMark p s = some t) : Keeps s t := by
  unfold placeMark at h
  dsimp only at h
  split at h
  · simp at h
  · next hp =>
    have hpush (r : OutRecord) : Keeps s (pushOut p r s) := keeps_pushOut r (by simpa using hp)
    split at h
    · obtain rfl := Option.some.inj h; exact (hpush _).trans (keeps_modPort_of_op id rfl)
    · obtain rfl := Option.some.inj h; exact (hpush _).trans (keeps_modPort_of_op id rfl)
    · obtain rfl := Option.some.inj h
      exact (hpush _).trans (keeps_modPort_of_op (fun ⟨hi, ho, _⟩ => ⟨hi, ho, by simp⟩) rfl)
    · simp at h

theorem keeps_placeMade (h : placeMade p s = some t) : Keeps s t := by
  obtain ⟨r, _, _, -, -, hp, rfl⟩ := placeMade_some h
  exact (keeps_pushOut _ hp).trans keeps_endOp

theorem keeps_enterHeld (h : enterHeld p s = some t) : Keeps s t := by
  unfold enterHeld at h
  split at h
  · simp at h
  · split at h
    · next hl =>
      obtain rfl := Option.some.inj h
      exact (keeps_modPort_of_op id rfl).trans (keeps_enterRecord (by simpa using hl))
    · simp at h

theorem keeps_endWaitNow : Keeps s (endWaitNow p s) := by
  unfold endWaitNow
  dsimp only
  split
  · cases hr : placeResponse p _ (endWait p s) with
    | none => exact keeps_endWait
    | some v => exact keeps_endWait.trans (keeps_placeResponse hr)
  · exact keeps_endWait

theorem keeps_flushComplete (h : flushComplete s = some t) : Keeps s t := by
  obtain ⟨-, -, ⟨-, -, -, rfl⟩ | ⟨-, -, -, -, -, rfl⟩⟩ := flushComplete_cases h
  · exact keeps_endWaitNow.trans (keeps_endWaitNow.trans (keeps_enterState _))
  · exact keeps_enterState _

theorem keeps_prepStart (h : prepStart s = some t) : Keeps s t := by
  unfold prepStart at h
  split at h
  · simp at h
  · split at h
    · simp at h
    · obtain rfl := Option.some.inj h; exact keeps_startBurst _ _ _
    · obtain rfl := Option.some.inj h; exact keeps_startBurst _ _ _
    · obtain rfl := Option.some.inj h; exact (keeps_startWrite _).trans (keeps_startBurst _ _ _)
    · obtain rfl := Option.some.inj h; exact keeps_startBurst _ _ _
    · simp at h

end Sys2Proof.Machine
end

section
/-!
PROOF. What the commands, and the records taken from the input queues, keep.
-/

namespace Sys2Proof.Machine

open Sys2Proof

variable {s t u : State} {p : Port} {tag : Tag}

/-- A command keeps what its run keeps where it is admitted. -/
theorem keeps_whenAdmitted {o : OpenTo} {run : State} (h : o.admits p = true → Keeps s run) :
    Keeps s (whenAdmitted o p tag s run) := by
  unfold whenAdmitted
  split
  · exact keeps_refuse _ _
  · split
    · next ho => exact h ho
    · exact keeps_refuse _ _

/-! ## The catalogue -/

theorem keeps_openEditionRun (key era resale : Word) : Keeps s (openEditionRun p tag key era resale s) := by
  refine keeps_whenAdmitted fun _ => ?_
  split
  · exact keeps_refuse _ _
  · split
    · exact keeps_refuse _ _
    · split
      · exact keeps_refuse _ _
      · split
        · exact keeps_refuse _ _
        · exact (show Keeps s (addEdition _ s) from ⟨rfl, id, id⟩).trans (keeps_answerDone _ _)

theorem keeps_assignSlots (object : Nat) (ns : List Nat) : Keeps s (assignSlots object ns s) := by
  refine keeps_foldl (fun _ x => ?_) ns.zipIdx s
  exact keeps_setSlot x.1 _

theorem keeps_addObject (o : ObjectRec) (ns pool : List Nat) : Keeps s (addObject o ns pool s) :=
  (show Keeps s { s with pool := pool } from ⟨rfl, id, id⟩).trans ((keeps_assignSlots o.number ns).trans ⟨rfl, id, id⟩)

theorem keeps_defineObjectRun (key kind sequence width height polarity : Word) :
    Keeps s (defineObjectRun p tag key kind sequence width height polarity s) := by
  refine keeps_whenAdmitted fun _ => ?_
  split
  · dsimp only
    split
    · exact keeps_refuse _ _
    · split
      · exact keeps_refuse _ _
      · split
        · exact keeps_refuse _ _
        · split
          · exact keeps_refuseWith _ _ _
          · split
            · exact keeps_refuse _ _
            · split
              · exact keeps_refuse _ _
              · split
                · exact keeps_refuse _ _
                · split
                  · exact keeps_refuse _ _
                  · exact (keeps_addObject _ _ _).trans (keeps_answer _)
  · exact keeps_refuse _ _

theorem keeps_closeEditionRun (key : Word) : Keeps s (closeEditionRun p tag key s) := by
  refine keeps_whenAdmitted fun _ => ?_
  split
  · exact keeps_refuse _ _
  · split
    · exact keeps_refuse _ _
    · split
      · exact keeps_refuse _ _
      · split
        · exact (keeps_freeCount _).trans (keeps_refuseWith _ _ _)
        · split
          · exact keeps_refuseWith _ _ _
          · exact (keeps_modEdition _ _).trans ((keeps_markDirty _).trans (keeps_answerDone _ _))

theorem keeps_amendEditionRun (key era resale : Word) : Keeps s (amendEditionRun p tag key era resale s) := by
  refine keeps_whenAdmitted fun _ => ?_
  split
  · exact keeps_refuse _ _
  · split
    · exact keeps_refuse _ _
    · split
      · exact keeps_refuse _ _
      · split
        · exact keeps_refuse _ _
        · exact (keeps_modEdition _ _).trans ((keeps_markDirty _).trans (keeps_answerDone _ _))

theorem keeps_releaseSlot (n : Nat) : Keeps s (releaseSlot n s) := by
  unfold releaseSlot
  dsimp only
  split
  · exact (keeps_leaveRelocations n).trans (keeps_retireSlot n)
  · split
    · exact (keeps_leaveRelocations n).trans ⟨rfl, id, id⟩
    · exact (keeps_leaveRelocations n).trans ⟨rfl, id, id⟩

theorem keeps_dropReleased (released : List Nat) : Keeps s (dropReleased released s) := by
  have hcopy (inFlight : Bool) : Keeps s (match s.upkeep.buffer with
      | some c => if c.slot ∈ released ∧ inFlight = false then dropCopy s else s
      | none => s) := by
    split
    · split
      · exact keeps_dropCopy
      · exact .refl s
    · exact .refl s
  have hmark (w : State) : Keeps w (match w.burst with
      | none => w
      | some b =>
        match b.work with
        | .writeback kept dropped => { w with burst := some { b with work := .writeback kept (dropped || b.slot ∈ released) } }
        | .relocationRead t g dropped noCopy =>
          { w with burst := some { b with work := .relocationRead t g (dropped || b.slot ∈ released) noCopy } }
        | .relocationWrite old dropped =>
          { w with burst := some { b with work := .relocationWrite old (dropped || old ∈ released) } }
        | _ => w) := by
    split
    · exact .refl w
    · next b hb =>
      have hw (k : BurstWork) : Keeps w { w with burst := some { b with work := k } } :=
        keeps_burst fun h c hc => by obtain rfl := Option.some.inj hc; exact h b hb
      split
      · exact hw _
      · exact hw _
      · exact hw _
      · exact .refl w
  exact (hcopy _).trans (hmark _)

theorem keeps_withdrawEdition (e : EditionRec) : Keeps s (withdrawEdition e s) := by
  have hobjects (w : State) (ns : List Nat) : Keeps w { w with objects := w.objects.filter fun o => !ns.contains o.number } :=
    ⟨rfl, id, id⟩
  have hedition (w : State) : Keeps w (markDirty (editionGroup e.position)
      { w with editions := w.editions.filter fun r => r.key != e.key }) := ⟨rfl, id, id⟩
  have hdamage (w : State) (ns : List Nat) : Keeps w { w with damage := w.damage.filter fun d => !ns.contains d.object } :=
    keeps_damage (List.length_filter_le _ _).trans
  exact (keeps_foldl (fun _ n => keeps_releaseSlot n) (editionSlots s e.objects) s).trans ((keeps_dropReleased _).trans
    ((hobjects _ _).trans ((keeps_foldl (fun _ n => keeps_markDirty (objectGroup n)) (e.objects.map (·.number)) _).trans
      ((hedition _).trans ((keeps_removeLock _).trans ((hdamage _ _).trans keeps_refillDamage))))))

theorem keeps_withdrawEditionRun (key : Word) : Keeps s (withdrawEditionRun p tag key s) := by
  refine keeps_whenAdmitted fun _ => ?_
  split
  · exact keeps_refuse _ _
  · split
    · exact keeps_refuse _ _
    · split
      · exact keeps_refuse _ _
      · exact (keeps_withdrawEdition _).trans (keeps_answerDone _ _)

theorem keeps_readEditionRun (key : Word) : Keeps s (readEditionRun p tag key s) := by
  refine keeps_whenAdmitted fun _ => ?_
  split
  · exact keeps_refuse _ _
  · split
    · exact keeps_refuse _ _
    · split
      · exact keeps_refuse _ _
      · exact keeps_answerDone _ _

theorem keeps_readObjectRun (object selection : Word) : Keeps s (readObjectRun p tag object selection s) := by
  refine keeps_whenAdmitted fun _ => ?_
  split
  · exact keeps_refuse _ _
  · split
    · exact keeps_refuse _ _
    · split
      · exact keeps_refuse _ _
      · exact keeps_answerDone _ _

theorem keeps_listEditionsRun (start : Word) : Keeps s (listEditionsRun p tag start s) := by
  refine keeps_whenAdmitted fun _ => ?_
  split
  · exact keeps_refuse _ _
  · exact keeps_answerDone _ _

/-! ## The other commands of Port A, and RENDER -/

theorem keeps_putWindowRun (object x0 x1 y0 y1 axis mirror packing : Word) :
    Keeps s (putWindowRun p tag object x0 x1 y0 y1 axis mirror packing s) := by
  refine keeps_whenAdmitted fun _ => ?_
  split
  · split
    · exact keeps_refuse _ _
    · split
      · exact keeps_refuse _ _
      · split
        · exact keeps_refuse _ _
        · split
          · exact keeps_refuse _ _
          · split
            · exact keeps_refuse _ _
            · exact keeps_setOp_none rfl
  · exact keeps_refuse _ _

theorem keeps_serviceBankRun (bank : Word) : Keeps s (serviceBankRun p tag bank s) := by
  refine keeps_whenAdmitted fun _ => ?_
  split
  · exact keeps_refuse _ _
  · exact keeps_setOp_none rfl

/-- A new entry of the lock table takes an empty place. -/
theorem length_addLock (k : EditionKey) (st : LockState) (l : List (Option LockEntry)) : (addLock k st l).length = l.length := by
  induction l with
  | nil => rfl
  | cons x rest ih => cases x <;> simp [addLock, ih]

theorem mem_addLock {k : EditionKey} {st : LockState} {e : LockEntry} {l : List (Option LockEntry)}
    (h : some e ∈ addLock k st l) : e = ⟨k, st, .a⟩ ∨ some e ∈ l := by
  induction l with
  | nil => simp [addLock] at h
  | cons x rest ih =>
    cases x with
    | none => simpa [addLock] using h
    | some f =>
      simp only [addLock, List.mem_cons] at h ⊢
      exact h.elim (fun h => .inr (.inl h)) fun h => (ih h).imp id .inr

/-- A HELD entry may be made on an edition that Port B is not on; a PENDING one on any. -/
theorem keeps_addLock (k : EditionKey) (st : LockState) (h : st = .held → s.portB.op.edition ≠ some k) :
    Keeps s { s with locks := addLock k st s.locks } :=
  keeps_locks (length_addLock k st _) fun hl e he hs => by
    rcases mem_addLock he with rfl | he
    · exact h hs
    · exact hl e he hs

theorem keeps_lockEditionRun (key : Word) : Keeps s (lockEditionRun p tag key s) := by
  refine keeps_whenAdmitted fun _ => ?_
  dsimp only
  split
  · exact keeps_refuse _ _
  · split
    · exact keeps_refuse _ _
    · split
      · exact keeps_refuse _ _
      · split
        · exact keeps_refuse _ _
        · split
          · exact keeps_refuse _ _
          · split
            · exact (keeps_addLock _ .pending nofun).trans (keeps_setOp_none rfl)
            · next hb =>
              exact (keeps_addLock _ .held fun _ => by simpa [onEditionB] using hb).trans (keeps_answerDone _ _)

theorem keeps_unlockEditionRun (key : Word) : Keeps s (unlockEditionRun p tag key s) := by
  refine keeps_whenAdmitted fun _ => ?_
  dsimp only
  split
  · exact keeps_refuse _ _
  · split
    · exact keeps_refuse _ _
    · split
      · exact keeps_refuse _ _
      · exact (keeps_releaseHeld _).trans (keeps_answerDone _ _)

theorem keeps_scrubStrobeRun : Keeps s (scrubStrobeRun p tag s) := by
  have hdue (timer : Nat) : Keeps s { s with upkeep := { s.upkeep with due := true, timer := timer } } := keeps_upkeep id
  refine keeps_whenAdmitted fun _ => ?_
  split
  · exact keeps_answer _
  · split
    · exact keeps_answer _
    · exact (hdue 0).trans (keeps_answerDone _ _)
  · split
    · exact keeps_answer _
    · exact (hdue _).trans (keeps_answerDone _ _)

theorem keeps_scrubBurstRun (count : Word) : Keeps s (scrubBurstRun p tag count s) := by
  refine keeps_whenAdmitted fun _ => ?_
  split
  · exact keeps_refuse _ _
  · next hc =>
    split
    · exact keeps_refuse _ _
    · have hmost : numberOf count ≤ 128 := by omega
      exact (keeps_upkeep fun _ => hmost).trans (keeps_answerDone _ _)

theorem keeps_takeDamageRun : Keeps s (takeDamageRun p tag s) := by
  refine keeps_whenAdmitted fun _ => ?_
  split
  · exact keeps_answer _
  · next d rest hd =>
    have hrest : Keeps s { s with damage := rest } := keeps_damage fun h => by
      rw [hd] at h; exact (Nat.le_succ _).trans h
    exact hrest.trans (keeps_refillDamage.trans (keeps_answerDone _ _))

theorem keeps_modCurves (n : Nat) (f : CurveSet → CurveSet) : Keeps s (modCurves n f s) := ⟨rfl, id, id⟩

theorem keeps_writeCurveRun (set polarity : Word) (knots : List Word) (lift : Word) :
    Keeps s (writeCurveRun p tag set polarity knots lift s) := by
  refine keeps_whenAdmitted fun _ => ?_
  split
  · exact keeps_refuse _ _
  · split
    · exact keeps_refuse _ _
    · exact (keeps_modCurves _ _).trans (keeps_answer _)

theorem keeps_writeFillRun (set level : Word) : Keeps s (writeFillRun p tag set level s) := by
  refine keeps_whenAdmitted fun _ => ?_
  split
  · exact keeps_refuse _ _
  · exact (keeps_modCurves _ _).trans (keeps_answerDone _ _)

theorem keeps_readCurveRun (set : Word) : Keeps s (readCurveRun p tag set s) := by
  refine keeps_whenAdmitted fun _ => ?_
  split
  · exact keeps_refuse _ _
  · exact keeps_answerDone _ _

/-- An edition without a lock condition has no entry in the lock table. -/
theorem not_mem_of_lockOf_none {k : EditionKey} (h : lockOf s k = none) {e : LockEntry} (he : some e ∈ s.locks) : e.key ≠ k := by
  simp only [lockOf, List.findSome?_eq_none_iff] at h
  simpa using h _ he

/-- The record found for a key carries it. -/
theorem findEdition_key {k : EditionKey} {e : EditionRec} (h : s.findEdition k = some e) : e.key = k := by
  simpa using List.find?_some h

/-- Port B comes to an edition only where that has no lock entry. -/
theorem keeps_startRender {k : EditionKey} (set : Nat) (o : Op) (hk : o.edition = some k) (h : p = .b → lockOf s k = none) :
    Keeps s (startRender p set o s) := by
  refine keeps_modPort id fun hp _ e he _ => ?_
  have hne := not_mem_of_lockOf_none (h hp) he
  intro heq
  exact hne (Option.some.inj (hk.symm.trans heq)).symm

theorem keeps_renderRun (object x0 x1 y0 y1 scale curve : Word) :
    Keeps s (renderRun p tag object x0 x1 y0 y1 scale curve s) := by
  refine keeps_whenAdmitted fun _ => ?_
  dsimp only
  split
  · exact keeps_refuse _ _
  · split
    · exact keeps_refuse _ _
    · next o _ =>
      split
      · exact keeps_refuse _ _
      · split
        · exact keeps_refuse _ _
        · next e he =>
          split
          · exact keeps_refuse _ _
          · split
            · exact keeps_refuse _ _
            · next hh =>
              refine keeps_startRender (k := o.key) _ _ rfl fun hp => ?_
              subst hp
              simpa [hiddenFrom, findEdition_key he] using hh

/-! ## The commands of Port B -/

theorem keeps_changeAccount (account : Word) (allowed : AccountState → Bool) (r : Account → Response) (f : Account → Account) :
    Keeps s (changeAccount p tag account allowed r f s) := by
  unfold changeAccount
  dsimp only
  split
  · exact keeps_refuse _ _
  · split
    · exact keeps_refuse _ _
    · split
      · exact keeps_refuse _ _
      · exact (show Keeps s (s.setAccount _ _).billed from ⟨rfl, id, id⟩).trans (keeps_awaitFlush _)

theorem keeps_setDiscountRun (account discount : Word) : Keeps s (setDiscountRun p tag account discount s) := by
  refine keeps_whenAdmitted fun _ => ?_
  split
  · exact keeps_refuse _ _
  · exact keeps_changeAccount _ _ _ _

theorem keeps_readTallyRun (account : Word) : Keeps s (readTallyRun p tag account s) := by
  refine keeps_whenAdmitted fun _ => ?_
  split
  · exact keeps_refuse _ _
  · exact keeps_answerDone _ _

theorem keeps_writeScheduleRun (item index value : Word) : Keeps s (writeScheduleRun p tag item index value s) := by
  refine keeps_whenAdmitted fun _ => ?_
  split
  · exact keeps_refuse _ _
  · split
    · exact keeps_refuse _ _
    · split
      · exact keeps_refuse _ _
      · exact (show Keeps s (markDirty 2 { s with schedule := _ }) from ⟨rfl, id, id⟩).trans (keeps_answer _)

theorem keeps_setYearRun (year : Word) : Keeps s (setYearRun p tag year s) := by
  refine keeps_whenAdmitted fun _ => ?_
  split
  · exact keeps_refuse _ _
  · dsimp only
    split
    · exact keeps_refuse _ _
    · split
      · exact keeps_refuse _ _
      · exact (show Keeps s (markDirty 2 { s with year := _, billingYear := _ }).billed from ⟨rfl, id, id⟩).trans
          (keeps_awaitFlush _)

theorem keeps_orderReprintRun (object sizeClass rightsClass quantity account : Word) :
    Keeps s (orderReprintRun p tag object sizeClass rightsClass quantity account s) := by
  unfold orderReprintRun
  split
  · exact keeps_refuse _ _
  · split
    · exact keeps_refuse _ _
    · split
      · exact keeps_refuse _ _
      · next o _ =>
        split
        · exact keeps_refuse _ _
        · split
          · exact keeps_refuse _ _
          · split
            · exact keeps_refuse _ _
            · next e he =>
              split
              · exact keeps_refuse _ _
              · split
                · exact keeps_refuse _ _
                · split
                  · exact keeps_refuse _ _
                  · next hlock =>
                    split
                    · exact keeps_refuse _ _
                    · split
                      · exact keeps_refuse _ _
                      · split
                        · exact keeps_refuse _ _
                        · refine Keeps.trans (t := { s with journal := _, sequence := _, billingPending := true }) ⟨rfl, id, id⟩
                            (keeps_startRender (k := o.key) _ _ rfl fun _ => ?_)
                          change lockOf s o.key = none
                          simpa [findEdition_key he] using hlock

theorem keeps_takeChargeRun : Keeps s (takeChargeRun p tag s) := by
  refine keeps_whenAdmitted fun _ => ?_
  split
  · exact keeps_answer _
  · split
    · exact keeps_answer _
    · split
      · exact keeps_refuse _ _
      · exact Keeps.trans (t := { s with journal := _, billingPending := true }) ⟨rfl, id, id⟩ (keeps_awaitFlush _)

/-! ## Records taken from the input queues -/

theorem keeps_runCommand (code : Nat) (r : InRecord) : Keeps s (runCommand code p tag r s) := by
  unfold runCommand
  split
  · exact keeps_openEditionRun _ _ _
  · exact keeps_defineObjectRun _ _ _ _ _ _
  · exact keeps_closeEditionRun _
  · exact keeps_amendEditionRun _ _ _
  · exact keeps_withdrawEditionRun _
  · exact keeps_putWindowRun _ _ _ _ _ _ _ _
  · exact keeps_serviceBankRun _
  · exact keeps_lockEditionRun _
  · exact keeps_unlockEditionRun _
  · exact keeps_scrubStrobeRun
  · exact keeps_scrubBurstRun _
  · exact keeps_takeDamageRun
  · exact keeps_writeCurveRun _ _ _ _
  · exact keeps_writeFillRun _ _
  · exact keeps_orderReprintRun _ _ _ _ _
  · exact keeps_takeChargeRun
  · exact keeps_whenAdmitted fun _ => keeps_changeAccount _ _ _ _
  · exact keeps_whenAdmitted fun _ => keeps_changeAccount _ _ _ _
  · exact keeps_whenAdmitted fun _ => keeps_changeAccount _ _ _ _
  · exact keeps_whenAdmitted fun _ => keeps_changeAccount _ _ _ _
  · exact keeps_setDiscountRun _ _
  · exact keeps_readTallyRun _
  · exact keeps_whenAdmitted fun _ => keeps_changeAccount _ _ _ _
  · exact keeps_writeScheduleRun _ _ _
  · exact keeps_setYearRun _
  · exact keeps_answerDone _ _
  · exact keeps_readEditionRun _
  · exact keeps_readObjectRun _ _
  · exact keeps_listEditionsRun _
  · exact keeps_renderRun _ _ _ _ _ _ _
  · exact keeps_readCurveRun _
  · exact keeps_whenAdmitted fun _ => keeps_answerDone _ _
  · exact keeps_refuse _ _

theorem keeps_runRecord (r : InRecord) : Keeps s (runRecord p r s) := by
  unfold runRecord
  dsimp only
  split
  · exact keeps_refuse _ _
  · split
    · exact keeps_refuse _ _
    · exact keeps_runCommand _ _

theorem keeps_takeHead : Keeps s (takeHead p s) := by
  unfold takeHead
  split
  · exact .refl s
  · next r rest hq =>
    have hrest : Keeps s (s.modPort p fun e => { e with inq := rest }) :=
      keeps_modPort_of_op (fun ⟨hi, ho, hm⟩ => ⟨by rw [hq] at hi; exact (Nat.le_succ _).trans hi, ho, hm⟩) rfl
    dsimp only
    split
    · exact hrest.trans (keeps_raiseStray _)
    · exact hrest.trans (keeps_runRecord _)

theorem keeps_inbound (h : inbound s = some t) : Keeps s t := by
  unfold inbound at h
  split at h
  · obtain rfl := Option.some.inj h; exact keeps_takeHead
  · obtain rfl := Option.some.inj h; exact keeps_takeHead
  · obtain rfl := Option.some.inj h; exact (keeps_freeCount _).trans keeps_takeHead
  · simp at h

theorem keeps_microStep (h : microStep s = some t) : Keeps s t := by
  obtain ⟨-, h | h | h | h | h | h | h | h | h | h | h | h⟩ := microStep_cases h
  · exact keeps_placeMark h
  · exact keeps_placeMark h
  · exact keeps_placeMade h
  · exact keeps_placeMade h
  · exact keeps_enterHeld h
  · exact keeps_enterHeld h
  · exact keeps_advance h
  · exact keeps_advance h
  · exact keeps_flushComplete h
  · exact keeps_prepStart h
  · exact keeps_arbitrate h
  · exact keeps_inbound h

theorem keeps_settle : Keeps s (settle s) :=
  settle_keeps (P := Keeps s) (fun _ _ h hm => h.trans (keeps_microStep hm)) (.refl s)

end Sys2Proof.Machine
end

section
/-!
PROOF. What every row keeps: O3 (the bounds), O4 (the law of the lock table), O5 (the canonical form of the medium) and O7 (the rows that
leave the medium).
-/

namespace Sys2Proof.Machine

open Sys2Proof

variable {s t u : State} {p : Port}

/-- A change from `s` to `t`, a write's end among them, keeps the bounds, the law of the lock table and the form of the medium. -/
structure Preserves (s t : State) : Prop where
  bounded : Bounded s → Bounded t
  lockLaw : LockLaw s → LockLaw t
  canonical : MediumCanonical s → MediumCanonical t

theorem Keeps.preserves (h : Keeps s t) : Preserves s t :=
  ⟨h.bounded, h.lockLaw, fun hm => by rw [MediumCanonical, h.medium]; exact hm⟩

theorem Preserves.trans (h : Preserves s t) (k : Preserves t u) : Preserves s u :=
  ⟨k.bounded ∘ h.bounded, k.lockLaw ∘ h.lockLaw, k.canonical ∘ h.canonical⟩

/-! ## The ends of bursts -/

theorem keeps_burstOver : Keeps s (burstOver s) :=
  (keeps_burst (b := none) (by simp)).trans (keeps_arbiter id)

theorem keeps_emptyWritten (b : Burst) : Keeps s (emptyWritten b s) := by
  unfold emptyWritten
  split
  · exact keeps_upkeep id
  · exact keeps_upkeep id
  · exact .refl s

theorem keeps_bankAfter (b : Burst) (done : Bool) : Keeps s (bankAfter b done s) := by
  unfold bankAfter
  split
  · split
    · exact keeps_setBank _ _
    · exact .refl s
  · exact keeps_setBank _ _

theorem keeps_spendRead (r : ReadEnd) : Keeps s (spendRead r s) := by
  unfold spendRead
  split
  · split
    · exact keeps_freeCount _
    · exact .refl s
  · exact .refl s

/-- The end of a write gives the slot its content and touches nothing else that an invariant speaks of. -/
theorem preserves_contentAfter (b : Burst) (done : Bool) : Preserves s (contentAfter b done s) := by
  refine ⟨fun h => ?_, fun h => ?_, mediumWf_contentAfter b done⟩ <;>
    rcases contentAfter_cases b done s with ⟨-, e⟩ | ⟨c, -, -, e⟩ | ⟨c, -, -, e⟩ <;> rw [e] <;> exact h

theorem keeps_endRead {b : Burst} {r : ReadEnd} {take : Delivery → State → State} (h : ∀ d s, Keeps s (take d s)) :
    Keeps s (endRead b r take s) :=
  keeps_burstOver.trans ((keeps_bankAfter b _).trans ((h _ _).trans ((keeps_spendRead r).trans keeps_settle)))

theorem keeps_endProbe {take : State → State} (h : ∀ s, Keeps s (take s)) : Keeps s (endProbe take s) :=
  keeps_burstOver.trans ((h _).trans keeps_settle)

theorem preserves_endWrite {b : Burst} {done : Bool} {take : State → State} (h : ∀ s, Keeps s (take s)) :
    Preserves s (endWrite b done take s) :=
  (keeps_burstOver.trans (keeps_emptyWritten b)).preserves.trans ((preserves_contentAfter b done).trans
    ((keeps_bankAfter b done).trans ((h _).trans keeps_settle)).preserves)

theorem preserves_endCarried (b : Burst) (done : Bool) : Preserves s (endCarried b done s) :=
  keeps_burstOver.preserves.trans ((preserves_contentAfter b done).trans keeps_settle.preserves)

/-! ## What the requesters of preparation's bursts do -/

theorem keeps_prepMarkerTaken (r : ReadEnd) : Keeps s (prepMarkerTaken r s) := by
  unfold prepMarkerTaken
  dsimp only
  split
  · split
    · exact ⟨rfl, id, id⟩
    · exact keeps_fail
    · exact ⟨rfl, id, id⟩
  · split
    · exact ⟨rfl, id, id⟩
    · exact keeps_fail
    · exact ⟨rfl, id, id⟩
  · exact keeps_fail

theorem keeps_prepFormatTaken (g : Nat) (done : Bool) : Keeps s (prepFormatTaken g done s) := by
  unfold prepFormatTaken
  split
  · exact keeps_fail
  · split
    · exact keeps_endPreparation
    · exact ⟨rfl, id, id⟩

theorem keeps_loadMarks (ms : List SlotMarks) : Keeps s (loadMarks ms s) := keeps_foldl (fun _ _ => keeps_setSlot _ _) ms s

theorem keeps_loadUnknown (g n : Nat) : Keeps s (loadUnknown g n s) := by
  unfold loadUnknown
  split
  · exact ⟨rfl, id, id⟩
  · split
    · exact ⟨rfl, id, id⟩
    · split
      · exact ⟨rfl, id, id⟩
      · split
        · exact ⟨rfl, id, id⟩
        · exact keeps_loadMarks _

theorem keeps_loadGroup (g : Nat) (c : SlotContent) : Keeps s (loadGroup g c s) := by
  unfold loadGroup
  split
  · exact .refl s
  · exact keeps_loadUnknown _ _
  · exact .refl s
  · exact ⟨rfl, id, id⟩
  · exact ⟨rfl, id, id⟩
  · exact ⟨rfl, id, id⟩
  · exact ⟨rfl, id, id⟩
  · exact keeps_loadMarks _

theorem keeps_prepLoadTaken (g : Nat) (r : ReadEnd) : Keeps s (prepLoadTaken g r s) := by
  have hload (errors : List WordError) : Keeps s
      (if heavyErrors errors then loadUnknown g s.freeCount s else loadGroup g (mediumRead s.medium g) s) := by
    split
    · exact keeps_loadUnknown _ _
    · exact keeps_loadGroup _ _
  have hgo (w : State) : Keeps w (if g = lastGroup w then endPreparation w else { w with prep := .load (g + 1) }) := by
    split
    · exact keeps_endPreparation
    · exact ⟨rfl, id, id⟩
  unfold prepLoadTaken
  dsimp only
  split
  · exact (hload _).trans (hgo _)
  · split
    · exact (hload _).trans (keeps_billed.trans (hgo _))
    · exact (hload _).trans ((keeps_markDirty g).trans (hgo _))
  · exact keeps_fail

/-! ## The rows -/

theorem keeps_submit {r : InRecord} {run : State → State} (h : Keeps s (run s)) : Keeps s (submit p r run s) := by
  unfold submit
  split
  · exact h.trans keeps_settle
  · exact (keeps_receive r).trans keeps_settle

theorem keeps_writeCurveStart {tag : Tag} (set polarity : Word) (knots : List Word) (lift : Word) :
    Keeps s (writeCurveStart p tag set polarity knots lift s) := by
  unfold writeCurveStart
  split
  · exact keeps_refuse _ _
  · exact keeps_writeCurveRun _ _ _ _

theorem keeps_takeInbound (r : InRecord) : Keeps s (takeInbound p r s) := by
  rcases takeInbound_cases p r s with ⟨-, e⟩ | ⟨-, e⟩ | ⟨-, e⟩ <;> rw [e]
  · exact keeps_receive r
  · split
    · exact keeps_takeCancel
    · exact .refl s
  · split
    · exact keeps_takeRestart
    · exact .refl s

theorem keeps_latchStrap (bits : List Bool) : Keeps s (latchStrap bits s) := ⟨rfl, id, id⟩

theorem keeps_takeStrapBit (bit : Bool) : Keeps s (takeStrapBit bit s) := by
  unfold takeStrapBit
  split
  · split
    · exact ⟨rfl, id, id⟩
    · exact (keeps_latchStrap _).trans keeps_settle
  · exact .refl s

theorem bounded_reset : Bounded State.reset :=
  ⟨by decide, by decide, ⟨by decide, by decide, nofun⟩, ⟨by decide, by decide, nofun⟩, by decide, by decide, by decide,
    by decide, nofun⟩

/-- RESET leaves the medium, and its values meet the bounds and the law of the lock table (R25). -/
theorem keeps_resetState : Keeps s (resetState s) := by
  refine ⟨rfl, fun hb => ?_, fun _ e he => by simp [resetState, State.reset] at he⟩
  have htimer (c : Burst) (hc : carriedBurst s = some c) : c.timer ≤ 500 := by
    obtain ⟨-, -, -, -, -, -, -, -, hb⟩ := hb
    unfold carriedBurst at hc
    split at hc
    · simp at hc
    · next b hs =>
      split at hc
      · simp at hc
      · obtain rfl := Option.some.inj hc; exact hb b hs
      · obtain rfl := Option.some.inj hc; exact hb b hs
  obtain ⟨h1, h2, h3, h4, h5, h6, h7, h8, -⟩ := bounded_reset
  exact ⟨h1, h2, h3, h4, h5, h6, h7, h8, htimer⟩

theorem keeps_tick : Keeps s (tick s) := by
  have hburst : Keeps s { s with burst := s.burst.map tickBurst } := keeps_burst fun _ c hc => by
    obtain ⟨b, -, rfl⟩ := Option.map_eq_some_iff.mp hc
    exact Nat.min_le_left _ _
  refine hburst.trans (keeps_upkeep fun h => ?_)
  unfold tickUpkeep
  split <;> exact h

/-- A row at which no write burst ends. -/
theorem exec_keeps {c : Instr} (hw : Instr.endsWrite c = false) (h : exec c s = .next t) : Keeps s t := by
  cases c with
  | formatWriteComplete | storeWriteComplete | writebackComplete | relocationWriteComplete | catalogueFlushComplete
  | billingFlushComplete | carriedWriteBurstEnd | burstTimeout => simp [Instr.endsWrite] at hw
  | openEdition p tag key era resale => obtain rfl := Host.Outcome.next.inj h; exact keeps_submit (keeps_openEditionRun _ _ _)
  | defineObject => obtain rfl := Host.Outcome.next.inj h; exact keeps_submit (keeps_defineObjectRun _ _ _ _ _ _)
  | closeEdition => obtain rfl := Host.Outcome.next.inj h; exact keeps_submit (keeps_closeEditionRun _)
  | amendEdition => obtain rfl := Host.Outcome.next.inj h; exact keeps_submit (keeps_amendEditionRun _ _ _)
  | withdrawEdition => obtain rfl := Host.Outcome.next.inj h; exact keeps_submit (keeps_withdrawEditionRun _)
  | putWindow => obtain rfl := Host.Outcome.next.inj h; exact keeps_submit (keeps_putWindowRun _ _ _ _ _ _ _ _)
  | serviceBank => obtain rfl := Host.Outcome.next.inj h; exact keeps_submit (keeps_serviceBankRun _)
  | lockEdition => obtain rfl := Host.Outcome.next.inj h; exact keeps_submit (keeps_lockEditionRun _)
  | unlockEdition => obtain rfl := Host.Outcome.next.inj h; exact keeps_submit (keeps_unlockEditionRun _)
  | scrubStrobe => obtain rfl := Host.Outcome.next.inj h; exact keeps_submit keeps_scrubStrobeRun
  | scrubBurst => obtain rfl := Host.Outcome.next.inj h; exact keeps_submit (keeps_scrubBurstRun _)
  | takeDamage => obtain rfl := Host.Outcome.next.inj h; exact keeps_submit keeps_takeDamageRun
  | writeCurve => obtain rfl := Host.Outcome.next.inj h; exact keeps_submit (keeps_writeCurveStart _ _ _ _)
  | writeFill => obtain rfl := Host.Outcome.next.inj h; exact keeps_submit (keeps_writeFillRun _ _)
  | orderReprint => obtain rfl := Host.Outcome.next.inj h; exact keeps_submit (keeps_orderReprintRun _ _ _ _ _)
  | takeCharge => obtain rfl := Host.Outcome.next.inj h; exact keeps_submit keeps_takeChargeRun
  | openAccount | suspendAccount | resumeAccount | closeAccount | clearTally =>
    obtain rfl := Host.Outcome.next.inj h; exact keeps_submit (keeps_whenAdmitted fun _ => keeps_changeAccount _ _ _ _)
  | setDiscount => obtain rfl := Host.Outcome.next.inj h; exact keeps_submit (keeps_setDiscountRun _ _)
  | readTally => obtain rfl := Host.Outcome.next.inj h; exact keeps_submit (keeps_readTallyRun _)
  | writeSchedule => obtain rfl := Host.Outcome.next.inj h; exact keeps_submit (keeps_writeScheduleRun _ _ _)
  | setYear => obtain rfl := Host.Outcome.next.inj h; exact keeps_submit (keeps_setYearRun _)
  | readStatus => obtain rfl := Host.Outcome.next.inj h; exact keeps_submit (keeps_answerDone _ _)
  | readEdition => obtain rfl := Host.Outcome.next.inj h; exact keeps_submit (keeps_readEditionRun _)
  | readObject => obtain rfl := Host.Outcome.next.inj h; exact keeps_submit (keeps_readObjectRun _ _)
  | listEditions => obtain rfl := Host.Outcome.next.inj h; exact keeps_submit (keeps_listEditionsRun _)
  | render => obtain rfl := Host.Outcome.next.inj h; exact keeps_submit (keeps_renderRun _ _ _ _ _ _ _)
  | readCurve => obtain rfl := Host.Outcome.next.inj h; exact keeps_submit (keeps_readCurveRun _)
  | readSchedule =>
    obtain rfl := Host.Outcome.next.inj h; exact keeps_submit (keeps_whenAdmitted fun _ => keeps_answerDone _ _)
  | unknownCommand => obtain rfl := Host.Outcome.next.inj h; exact keeps_submit (keeps_runRecord _)
  | commandRecordReceived | dataRecordReceived | cancel | restart =>
    obtain rfl := Host.Outcome.next.inj h; exact (keeps_takeInbound _).trans keeps_settle
  | strayRecord =>
    obtain rfl := Host.Outcome.next.inj h
    split
    · exact (keeps_raiseStray _).trans keeps_settle
    · exact (keeps_receive _).trans keeps_settle
  | recordTaken p =>
    simp only [exec, execRecordTaken] at h
    split at h
    · obtain rfl := Host.Outcome.next.inj h
      refine Keeps.trans (keeps_modPort_of_op (fun ⟨hi, ho, hm⟩ => ⟨hi, ?_, hm⟩) rfl) keeps_settle
      exact List.length_drop.trans_le ((Nat.sub_le _ _).trans ho)
    · simp at h
  | outboundWordTaken p =>
    simp only [exec, execOutboundWordTaken] at h
    split at h
    · split at h
      · obtain rfl := Host.Outcome.next.inj h; exact keeps_modPort_of_op id rfl
      · simp at h
    · simp at h
  | resetAsserted =>
    obtain rfl := Host.Outcome.next.inj h
    split
    · exact .refl s
    · exact keeps_resetState
  | resetReleased =>
    obtain rfl := Host.Outcome.next.inj h
    split
    · exact (show Keeps s (releaseReset s) from ⟨rfl, id, id⟩).trans keeps_settle
    · exact .refl s
  | latchStrapWord bit =>
    simp only [exec, execLatchStrapWord] at h
    split at h
    · split at h
      · simp at h
      · obtain rfl := Host.Outcome.next.inj h; exact (keeps_latchStrap _).trans keeps_settle
    · obtain rfl := Host.Outcome.next.inj h; exact .refl s
  | strapBitTaken bit => obtain rfl := Host.Outcome.next.inj h; exact keeps_takeStrapBit bit
  | prepProbeComplete =>
    simp only [exec, execPrepProbeComplete] at h
    split at h
    · obtain rfl := Host.Outcome.next.inj h; exact keeps_endProbe fun _ => keeps_prepProbeTaken _ _
    · simp at h
  | prepMarkerReadComplete =>
    simp only [exec, execPrepMarkerReadComplete] at h
    split at h
    · obtain rfl := Host.Outcome.next.inj h; exact keeps_endRead fun _ _ => keeps_prepMarkerTaken _
    · simp at h
  | loadReadComplete =>
    simp only [exec, execLoadReadComplete] at h
    split at h
    · obtain rfl := Host.Outcome.next.inj h; exact keeps_endRead fun _ _ => keeps_prepLoadTaken _ _
    · simp at h
  | powerWarnAsserted =>
    have hpin : Keeps s { s with powerWarn := true } := ⟨rfl, id, id⟩
    obtain rfl := Host.Outcome.next.inj h
    split
    · exact .refl s
    · dsimp only
      split
      · exact hpin
      · split
        · exact hpin.trans (keeps_enterFlushing.trans keeps_settle)
        all_goals exact hpin
  | powerWarnReleased =>
    have hpin : Keeps s { s with powerWarn := false } := ⟨rfl, id, id⟩
    obtain rfl := Host.Outcome.next.inj h
    split
    · exact .refl s
    · dsimp only
      split
      · exact hpin
      · split
        · exact hpin.trans ((keeps_enterState _).trans keeps_settle)
        all_goals exact hpin
  | readMergeComplete =>
    simp only [exec, execReadMergeComplete] at h
    split at h
    · obtain rfl := Host.Outcome.next.inj h; exact keeps_endRead fun _ _ => keeps_storeReadTaken _ _ _
    · simp at h
  | renderReadComplete =>
    simp only [exec, execRenderReadComplete] at h
    split at h
    · split at h
      · obtain rfl := Host.Outcome.next.inj h; exact keeps_endRead fun _ _ => keeps_renderReadTaken _ _
      · simp at h
    · simp at h
  | probeComplete =>
    simp only [exec, execProbeComplete] at h
    split at h
    · obtain rfl := Host.Outcome.next.inj h; exact keeps_endProbe fun _ => keeps_probeTaken _ _
    · simp at h
  | scrubTimerExpiry =>
    have hdue : Keeps s { s with upkeep := { s.upkeep with due := true, timer := 0 } } := keeps_upkeep id
    simp only [exec, execScrubTimerExpiry] at h
    split at h
    · obtain rfl := Host.Outcome.next.inj h; exact hdue.trans keeps_settle
    · simp at h
  | scrubVisitComplete =>
    simp only [exec, execScrubVisitComplete] at h
    split at h
    · obtain rfl := Host.Outcome.next.inj h; exact keeps_endRead fun _ _ => keeps_scrubTaken _ _ _ _
    · simp at h
  | relocationReadComplete =>
    simp only [exec, execRelocationReadComplete] at h
    split at h
    · obtain rfl := Host.Outcome.next.inj h; exact keeps_endRead fun _ _ => keeps_relocationReadTaken _ _ _ _ _ _
    · simp at h

/-- BURST_TIMEOUT: the burst starts again, or its requester takes its failure. -/
theorem preserves_burstTimeout (h : execBurstTimeout s = .next t) : Preserves s t := by
  unfold execBurstTimeout at h
  split at h
  · next b _ =>
    obtain rfl := Host.Outcome.next.inj h
    split
    · exact (keeps_burst fun _ c hc => by obtain rfl := Option.some.inj hc; simp).preserves
    · unfold failBurst
      split
      · exact (keeps_endProbe fun _ => keeps_prepProbeTaken _ _).preserves
      · exact (keeps_endRead fun _ _ => keeps_prepMarkerTaken _).preserves
      · exact preserves_endWrite fun _ => keeps_prepFormatTaken _ _
      · exact (keeps_endRead fun _ _ => keeps_prepLoadTaken _ _).preserves
      · exact (keeps_endRead fun _ _ => keeps_storeReadTaken _ _ _).preserves
      · exact preserves_endWrite fun _ => keeps_storeWriteTaken _ _ _
      · exact (keeps_endRead fun _ _ => keeps_renderReadTaken _ _).preserves
      · exact (keeps_endProbe fun _ => keeps_probeTaken _ _).preserves
      · exact (keeps_endRead fun _ _ => keeps_scrubTaken _ _ _ _).preserves
      · exact preserves_endWrite fun _ => keeps_writebackTaken _ _ _ _
      · exact (keeps_endRead fun _ _ => keeps_relocationReadTaken _ _ _ _ _ _).preserves
      · exact preserves_endWrite fun _ => keeps_relocationWriteTaken _ _ _ _
      · exact preserves_endWrite fun _ => keeps_catalogueFlushTaken _ _
      · exact preserves_endWrite fun _ => keeps_billingFlushTaken _
      · exact preserves_endCarried _ _
  · simp at h

/-- Every row, those at which a write burst ends among them. -/
theorem exec_preserves {c : Instr} (h : exec c s = .next t) : Preserves s t := by
  by_cases hw : Instr.endsWrite c = false
  · exact (exec_keeps hw h).preserves
  · cases c with
    | formatWriteComplete =>
      simp only [exec, execFormatWriteComplete] at h
      split at h
      · obtain rfl := Host.Outcome.next.inj h; exact preserves_endWrite fun _ => keeps_prepFormatTaken _ _
      · simp at h
    | storeWriteComplete =>
      simp only [exec, execStoreWriteComplete] at h
      split at h
      · obtain rfl := Host.Outcome.next.inj h; exact preserves_endWrite fun _ => keeps_storeWriteTaken _ _ _
      · simp at h
    | writebackComplete =>
      simp only [exec, execWritebackComplete] at h
      split at h
      · obtain rfl := Host.Outcome.next.inj h; exact preserves_endWrite fun _ => keeps_writebackTaken _ _ _ _
      · simp at h
    | relocationWriteComplete =>
      simp only [exec, execRelocationWriteComplete] at h
      split at h
      · obtain rfl := Host.Outcome.next.inj h; exact preserves_endWrite fun _ => keeps_relocationWriteTaken _ _ _ _
      · simp at h
    | catalogueFlushComplete =>
      simp only [exec, execCatalogueFlushComplete] at h
      split at h
      · obtain rfl := Host.Outcome.next.inj h; exact preserves_endWrite fun _ => keeps_catalogueFlushTaken _ _
      · simp at h
    | billingFlushComplete =>
      simp only [exec, execBillingFlushComplete] at h
      split at h
      · obtain rfl := Host.Outcome.next.inj h; exact preserves_endWrite fun _ => keeps_billingFlushTaken _
      · simp at h
    | carriedWriteBurstEnd =>
      simp only [exec, execCarriedWriteBurstEnd] at h
      split at h
      · obtain rfl := Host.Outcome.next.inj h; exact preserves_endCarried _ _
      · simp at h
    | burstTimeout => exact preserves_burstTimeout h
    | _ => exact absurd rfl hw

theorem step_preserves (h : step s = .next t) : Preserves s t := by
  unfold step at h
  split at h
  · obtain rfl := Host.Outcome.next.inj h; exact keeps_tick.preserves
  · next c rest _ =>
    have hrest : Preserves s { s with pending := rest } := ⟨id, id, id⟩
    exact hrest.trans (exec_preserves h)

/-! ## The obligations -/

/-- Settles O3: every change that a step is made of keeps the bounds (`step_preserves`, row by row in `exec_preserves`). -/
theorem stepKeepsBounds : Obligations.StepKeepsBounds := fun _ _ hb h => (step_preserves h).bounded hb

/-- Settles O4: the same walk over the rows; a lock becomes HELD only where Port B has no operation on its edition. -/
theorem stepKeepsLockLaw : Obligations.StepKeepsLockLaw := fun _ _ hl h => (step_preserves h).lockLaw hl

/-- Settles O5: the same walk; the medium is written through `mediumWrite` alone, which keeps the canonical form. -/
theorem stepKeepsMediumCanonical : Obligations.StepKeepsMediumCanonical := fun _ _ hm h => (step_preserves h).canonical hm

/-- Settles O7: `exec_keeps` covers the rows at which no write burst ends, and says that they leave the medium. -/
theorem onlyWriteEndsChangeMedium : Obligations.OnlyWriteEndsChangeMedium := fun _ _ _ hw h => (exec_keeps hw h).medium

end Sys2Proof.Machine
end

section
/-!
PROOF. What the part does of its own accord with no record waiting, and O2.  `standing` blanks what such moves may change; `Quiet` says that
the rest stands and that no record comes to wait.
-/

namespace Sys2Proof.Machine

open Sys2Proof

variable {s t u : State} {p : Port}

/-- The part of the state that stands while the part goes on of its own accord: every other field is blanked. -/
def State.standing (s : State) : State :=
  { s with
    device := .preparing, burst := none, editions := [], dirty := [], slots := [], pool := [], relocations := []
    arbiter := Arbiter.reset, upkeep := Upkeep.reset, locks := [], accounts := [], journal := [], billingPending := false
    portA := PortEngine.reset, portB := PortEngine.reset, freeCount := 0 }

/-- No record waits at either port. -/
def NoRecords (s : State) : Prop := ∀ p, (s.port p).inq = [] ∧ (s.port p).held = none

/-- A change from `s` to `t` that leaves what stands, and brings no record to wait. -/
structure Quiet (s t : State) : Prop where
  standing : t.standing = s.standing
  records : NoRecords s → NoRecords t

theorem Quiet.refl (s : State) : Quiet s s := ⟨rfl, id⟩

theorem Quiet.trans (h : Quiet s t) (k : Quiet t u) : Quiet s u := ⟨k.standing.trans h.standing, k.records ∘ h.records⟩

/-- A change that leaves both ports leaves the records. -/
theorem Quiet.of_ports (h : t.standing = s.standing) (ha : t.portA = s.portA) (hb : t.portB = s.portB) : Quiet s t :=
  ⟨h, fun hr p => by cases p with
    | a => rw [State.port, ha]; exact hr .a
    | b => rw [State.port, hb]; exact hr .b⟩

/-! ## Ports -/

theorem quiet_modPort {f : PortEngine → PortEngine} (hi : (s.port p).inq = [] → (f (s.port p)).inq = [])
    (hh : (f (s.port p)).held = (s.port p).held) : Quiet s (s.modPort p f) := by
  refine ⟨by cases p <;> rfl, fun h q => ?_⟩
  by_cases hq : q = p
  · subst hq
    rw [modPort_port_same, hh]
    exact ⟨hi (h q).1, (h q).2⟩
  · rw [modPort_port_other _ _ hq]
    exact h q

theorem quiet_setOp (o : Op) : Quiet s (s.setOp p o) := quiet_modPort id rfl

theorem quiet_respond (r : Response) (k : Option EditionKey) (store : Bool) : Quiet s (respond p r k store s) := quiet_setOp _

theorem quiet_pushOut (r : OutRecord) : Quiet s (pushOut p r s) := quiet_modPort id rfl

theorem quiet_dropSnapshot : Quiet s (dropSnapshot p s) := quiet_modPort id rfl

theorem quiet_raiseDevice : Quiet s (raiseDevice p s) := by
  rcases raiseDevice_cases p s with h | h <;> rw [h]
  · exact quiet_pushOut _
  · exact quiet_modPort id rfl

/-! ## The ends of operations -/

theorem quiet_voidOrder (n : BitVec 32) : Quiet s (voidOrder n s) := by rw [voidOrder_frame]; exact .of_ports rfl rfl rfl

theorem quiet_lockBecomesHeld (k : EditionKey) : Quiet s (lockBecomesHeld k s) := by
  unfold lockBecomesHeld
  split
  · have hheld : Quiet s (holdLock k s) := .of_ports rfl rfl rfl
    dsimp only
    split
    · split
      · exact hheld.trans (quiet_setOp _)
      · exact hheld
    · exact hheld
  · exact .refl s

theorem quiet_endOp : Quiet s (endOp p s) := by
  have h : Quiet s (s.modPort p fun e => { e with op := .idle, snapshot := none }) := quiet_modPort id rfl
  unfold endOp
  dsimp only
  split
  · exact h.trans (quiet_lockBecomesHeld _)
  · exact h

theorem quiet_releaseHeld (k : EditionKey) : Quiet s (releaseHeld k s) := by
  unfold releaseHeld
  split
  · exact .of_ports rfl rfl rfl
  · split <;> exact .of_ports rfl rfl rfl

theorem quiet_releaseAll : Quiet s (releaseAll s) := by
  unfold releaseAll
  dsimp only
  generalize (s.locks.filterMap _) = keys
  induction keys generalizing s with
  | nil => exact .refl s
  | cons x rest ih =>
    refine Quiet.trans ?_ ih
    obtain ⟨k, st⟩ := x
    cases st with
    | held => exact quiet_releaseHeld k
    | pending => exact .of_ports rfl rfl rfl

theorem quiet_restartEnds : Quiet s (restartEnds p s) := by
  have hvoid : Quiet s (match (s.port p).op with | .order o => voidOrder o.sequence s | _ => s) := by
    split
    · exact quiet_voidOrder _
    · exact .refl s
  have hmark (t : State) : Quiet t (t.modPort p fun e => { e with restart := .answering }) := quiet_modPort id rfl
  refine hvoid.trans ((quiet_endOp (p := p)).trans ?_)
  cases p with
  | a => exact quiet_releaseAll.trans (hmark _)
  | b => exact hmark _

theorem quiet_orderCancelled (o : OrderCtx) : Quiet s (orderCancelled p o s) := (quiet_respond _ _ _).trans quiet_dropSnapshot

theorem quiet_renderCancelled (c : RenderCtx) : Quiet s (renderCancelled p c s) := (quiet_respond _ _ _).trans quiet_dropSnapshot

theorem quiet_storeFaulted (c : StoreCtx) : Quiet s (storeFaulted c s) :=
  (quiet_modPort (fun h => by simp [h, discardData]) rfl).trans (quiet_respond _ _ _)

theorem quiet_placeResponse {r : Response} (h : placeResponse p r s = some t) : Quiet s t := by
  unfold placeResponse at h
  split at h
  · obtain rfl := Option.some.inj h; exact (quiet_pushOut _).trans quiet_endOp
  · simp at h

theorem quiet_endWait : Quiet s (endWait p s) := by
  unfold endWait
  split
  · exact quiet_respond _ _ _
  · split
    · exact quiet_orderCancelled _
    · exact .refl s
    · exact .refl s
  all_goals exact .refl s

theorem quiet_endWaitNow : Quiet s (endWaitNow p s) := by
  unfold endWaitNow
  dsimp only
  split
  · cases hr : placeResponse p _ (endWait p s) with
    | none => exact quiet_endWait
    | some v => exact quiet_endWait.trans (quiet_placeResponse hr)
  · exact quiet_endWait

theorem quiet_enterState (d : DeviceState) : Quiet s (enterState d s) :=
  (show Quiet s { s with
      device := d
      upkeep := { s.upkeep with timerRunning := d == .ready && scrubMode s.strap != .strobeOnly, timer := 0 } } from
    .of_ports rfl rfl rfl).trans (quiet_raiseDevice.trans quiet_raiseDevice)

theorem quiet_flushComplete (h : flushComplete s = some t) : Quiet s t := by
  obtain ⟨-, -, ⟨-, -, -, rfl⟩ | ⟨-, -, -, -, -, rfl⟩⟩ := flushComplete_cases h
  · exact quiet_endWaitNow.trans (quiet_endWaitNow.trans (quiet_enterState _))
  · exact quiet_enterState _

/-! ## The starts of bursts -/

theorem quiet_dropCopy : Quiet s (dropCopy s) := by rw [dropCopy_frame]; exact .of_ports rfl rfl rfl

theorem quiet_startWrite (n : Nat) : Quiet s (startWrite n s) := by rw [startWrite_frame]; exact .of_ports rfl rfl rfl

theorem quiet_startBurst (w : BurstWork) (n : Nat) (c : Option SlotContent) : Quiet s (startBurst w n c s) := .of_ports rfl rfl rfl

theorem quiet_noteBurst (k : UpkeepBurst) : Quiet s (noteBurst k s) := .of_ports rfl rfl rfl

theorem quiet_flushedLast (g : Nat) : Quiet s { s with upkeep := { s.upkeep with lastGroup := some g } } := .of_ports rfl rfl rfl

theorem quiet_granted (r : Requester) : Quiet s (granted r s) := .of_ports rfl rfl rfl

theorem quiet_carryWait : Quiet s (carryWait p s) := by
  unfold carryWait
  split
  · exact quiet_setOp _
  · split
    · exact quiet_setOp _
    · exact quiet_setOp _
    · exact .refl s
  all_goals exact .refl s

theorem quiet_startBillingFlush : Quiet s (startBillingFlush s) :=
  (show Quiet s { s with billingPending := false } from .of_ports rfl rfl rfl).trans (quiet_carryWait.trans
    (quiet_carryWait.trans ((quiet_startWrite 1).trans ((quiet_noteBurst _).trans (quiet_startBurst _ _ _)))))

theorem quiet_startCatalogueFlush (g : Nat) : Quiet s (startCatalogueFlush g s) :=
  (show Quiet s { s with dirty := s.dirty.filter (· != g) } from .of_ports rfl rfl rfl).trans
    ((quiet_startWrite g).trans ((quiet_noteBurst _).trans ((quiet_flushedLast g).trans (quiet_startBurst _ _ _))))

theorem quiet_startCopy (c : Copy) : Quiet s (startCopy c s) := by
  unfold startCopy
  dsimp only
  split
  all_goals exact (quiet_startWrite _).trans ((quiet_noteBurst _).trans (quiet_startBurst _ _ _))

theorem quiet_startRelocation (old : Nat) : Quiet s (startRelocation old s) := by
  unfold startRelocation
  split <;> exact .of_ports rfl rfl rfl

theorem quiet_startWork (w : UpkeepWork) : Quiet s (startWork w s) := by
  cases w with
  | billing => exact quiet_startBillingFlush
  | copy c => exact quiet_startCopy c
  | relocate old => exact quiet_startRelocation old
  | flush g => exact quiet_startCatalogueFlush g
  | scrub n => exact .of_ports rfl rfl rfl

theorem quiet_startUpkeep : Quiet s (startUpkeep s) := by
  unfold startUpkeep
  split
  · exact .refl s
  · split
    · exact quiet_startCopy _
    · dsimp only
      split
      · exact quiet_dropCopy
      · exact quiet_dropCopy.trans (quiet_startWork _)
  · exact quiet_startWork _

theorem quiet_prepStart (h : prepStart s = some t) : Quiet s t := by
  unfold prepStart at h
  split at h
  · simp at h
  · split at h
    · simp at h
    · obtain rfl := Option.some.inj h; exact quiet_startBurst _ _ _
    · obtain rfl := Option.some.inj h; exact quiet_startBurst _ _ _
    · obtain rfl := Option.some.inj h; exact (quiet_startWrite _).trans (quiet_startBurst _ _ _)
    · obtain rfl := Option.some.inj h; exact quiet_startBurst _ _ _
    · simp at h

/-! ## Grants: a burst in an OFFLINE bank ends at once, with no data -/

theorem quiet_storeReadTaken_offline (i n : Nat) : Quiet s (storeReadTaken i n offlineDelivery s) := by
  unfold storeReadTaken
  split
  · exact quiet_setOp _
  · exact .refl s

theorem quiet_storeWriteTaken_failed (i n : Nat) : Quiet s (storeWriteTaken i n false s) := by
  unfold storeWriteTaken
  split
  · rw [if_neg (by simp)]
    split
    · exact quiet_storeFaulted _
    · exact .refl s
  · exact .refl s

theorem quiet_renderReadTaken_offline (n : Nat) : Quiet s (renderReadTaken p n offlineDelivery s) := by
  unfold renderReadTaken
  split
  · exact .refl s
  · split
    · exact .refl s
    · split
      · exact .refl s
      · exact quiet_setOp _

theorem quiet_storeWriteStart (object n : Nat) : Quiet s (storeWriteStart object n s) := by
  have hcopy (w : State) : Quiet w (match w.upkeep.buffer with
      | some copy => if copy.slot = n then dropCopy w else w
      | none => w) := by
    split
    · split
      · exact quiet_dropCopy
      · exact .refl w
    · exact .refl w
  have hmark (w : State) : Quiet w (match w.findObject object with
      | none => w
      | some o => w.modEdition o.key fun e => { e with writtenUnderLock := e.writtenUnderLock || e.state == .closed }) := by
    split <;> exact .of_ports rfl rfl rfl
  exact (quiet_startWrite n).trans ((hcopy _).trans (hmark _))

theorem quiet_grantPort : Quiet s (grantPort p s) := by
  have hburst (w : BurstWork) (n : Nat) (c : Option SlotContent) (v : State) :
      Quiet v (startBurst w n c (granted (.port p) v)) := (quiet_granted _).trans (quiet_startBurst _ _ _)
  unfold grantPort
  split
  · split
    · split
      · exact .refl s
      · dsimp only
        split
        · exact quiet_storeReadTaken_offline _ _
        · exact hburst _ _ _ s
    · exact .refl s
    · split
      · exact .refl s
      · dsimp only
        split
        · exact quiet_storeWriteTaken_failed _ _
        · exact (quiet_storeWriteStart _ _).trans (hburst _ _ _ _)
  · exact (quiet_setOp _).trans (hburst _ _ _ _)
  · split
    · exact .refl s
    · split
      · exact .refl s
      · split
        · exact .refl s
        · dsimp only
          split
          · exact quiet_renderReadTaken_offline _
          · exact hburst _ _ _ s

theorem quiet_grant (r : Requester) : Quiet s (grant r s) := by
  cases r with
  | port q => exact quiet_grantPort
  | upkeep =>
    unfold grant
    dsimp only
    split
    · exact quiet_startUpkeep.trans (quiet_granted _)
    · exact quiet_startUpkeep

/-- Everything a grant decision can do: it grants, perhaps after using a free value, or leaves no decision due. -/
theorem arbitrate_cases (h : arbitrate s = some t) :
    s.burst = none ∧ ((arbiterActive s = true ∧ ∃ r n, t = grant r { s with freeCount := n }) ∨
      t = { s with arbiter := { s.arbiter with deciding := false } }) := by
  unfold arbitrate at h
  split at h
  · simp at h
  · next hb =>
    refine ⟨by simpa using hb, ?_⟩
    split at h
    · split at h
      · exact .inr (Option.some.inj h).symm
      · simp at h
    · next ha =>
      have hactive : arbiterActive s = true := by simpa using ha
      split at h
      · split at h
        · next r _ => exact .inl ⟨hactive, r, s.freeCount, (Option.some.inj h).symm⟩
        · exact .inr (Option.some.inj h).symm
      · split at h
        · simp at h
        · next r _ => exact .inl ⟨hactive, r, s.freeCount, (Option.some.inj h).symm⟩
        · exact .inl ⟨hactive, _, _, (Option.some.inj h).symm⟩

theorem quiet_arbitrate (h : arbitrate s = some t) : Quiet s t := by
  obtain ⟨-, ⟨-, r, n, rfl⟩ | rfl⟩ := arbitrate_cases h
  · exact (show Quiet s { s with freeCount := n } from .of_ports rfl rfl rfl).trans (quiet_grant r)
  · exact .of_ports rfl rfl rfl

/-! ## The operations in flight -/

theorem quiet_advanceStore {c : StoreCtx} (hq : s.portA.inq = []) (h : advanceStore c s = some t) : Quiet s t := by
  unfold advanceStore at h
  split at h
  · split at h
    · split at h
      · simp at h
      · obtain rfl := Option.some.inj h; exact quiet_respond _ _ _
    · split at h
      · simp at h
      · obtain rfl := Option.some.inj h; exact quiet_setOp _
  · rw [hq] at h
    simp at h
  · split at h
    · simp at h
    · split at h
      · obtain rfl := Option.some.inj h; exact quiet_respond _ _ _
      · split at h
        · obtain rfl := Option.some.inj h; exact quiet_respond _ _ _
        · split at h
          · simp at h
          · obtain rfl := Option.some.inj h; exact quiet_setOp _

theorem quiet_completeOrder (o : OrderCtx) : Quiet s (completeOrder p o s) := by
  unfold completeOrder
  split
  · exact quiet_setOp _
  · exact Quiet.trans (t := { s with journal := _, billingPending := true, accounts := _ }) (.of_ports rfl rfl rfl) (quiet_setOp _)

theorem quiet_renderDone (c : RenderCtx) : Quiet s (renderDone p c s) := by
  unfold renderDone
  split
  · exact (quiet_completeOrder _).trans quiet_dropSnapshot
  · exact (quiet_respond _ _ _).trans quiet_dropSnapshot

theorem quiet_renderStopped (c : RenderCtx) : Quiet s (renderStopped p c s) := by
  unfold renderStopped
  split
  · exact quiet_orderCancelled _
  · exact quiet_renderCancelled _

theorem quiet_advanceEmit {c : RenderCtx} {o : ObjectRec} (h : advanceEmit p c o s = some t) : Quiet s t := by
  unfold advanceEmit at h
  dsimp only at h
  split at h
  · split at h
    · obtain rfl := Option.some.inj h; exact (quiet_pushOut _).trans (quiet_setOp _)
    · simp at h
  · split at h
    · obtain rfl := Option.some.inj h; exact quiet_renderDone c
    · split at h
      · split at h
        · simp at h
        · obtain rfl := Option.some.inj h; exact quiet_setOp _
      · obtain rfl := Option.some.inj h; exact quiet_setOp _

theorem quiet_advanceRender {c : RenderCtx} (h : advanceRender p c s = some t) : Quiet s t := by
  unfold advanceRender at h
  split at h
  · simp at h
  · split at h
    · obtain rfl := Option.some.inj h; exact quiet_renderStopped c
    · split at h
      · simp at h
      · split at h
        · split at h
          · simp at h
          · split at h
            · obtain rfl := Option.some.inj h; exact quiet_setOp _
            · obtain rfl := Option.some.inj h; exact quiet_setOp _
        · exact quiet_advanceEmit h

theorem quiet_advanceRestart (h : advanceRestart p s = some t) : Quiet s t := by
  unfold advanceRestart at h
  split at h
  · simp at h
  · split at h
    · simp at h
    · obtain rfl := Option.some.inj h; exact quiet_restartEnds
  · split at h
    · obtain rfl := Option.some.inj h; exact (quiet_pushOut _).trans (quiet_modPort id rfl)
    · simp at h

theorem quiet_advance (hr : NoRecords s) (h : advance p s = some t) : Quiet s t := by
  rcases advance_cases h with ⟨-, h⟩ | ⟨-, ⟨c, -, h⟩ | ⟨c, -, h⟩⟩
  · exact quiet_advanceRestart h
  · exact quiet_advanceStore (hr .a).1 h
  · exact quiet_advanceRender h

/-! ## Notices and records -/

theorem quiet_placeMark (h : placeMark p s = some t) : Quiet s t := by
  unfold placeMark at h
  dsimp only at h
  split at h
  · simp at h
  · split at h
    · obtain rfl := Option.some.inj h; exact (quiet_pushOut _).trans (quiet_modPort id rfl)
    · obtain rfl := Option.some.inj h; exact (quiet_pushOut _).trans (quiet_modPort id rfl)
    · obtain rfl := Option.some.inj h; exact (quiet_pushOut _).trans (quiet_modPort id rfl)
    · simp at h

theorem quiet_placeMade (h : placeMade p s = some t) : Quiet s t := by
  obtain ⟨r, _, _, -, -, -, rfl⟩ := placeMade_some h
  exact (quiet_pushOut _).trans quiet_endOp

/-- Nothing enters a queue, and nothing is taken from one, where no record waits. -/
theorem enterHeld_none (h : (s.port p).held = none) : enterHeld p s = none := by rw [enterHeld, h]

theorem canTake_of_empty (h : (s.port p).inq = []) : canTake p s = false := by simp [canTake, strayAtHead, commandAtHead, h]

theorem inbound_none (h : NoRecords s) : inbound s = none := by
  rw [inbound, canTake_of_empty (h .a).1, canTake_of_empty (h .b).1]

theorem quiet_microStep (hr : NoRecords s) (h : microStep s = some t) : Quiet s t := by
  obtain ⟨-, h | h | h | h | h | h | h | h | h | h | h | h⟩ := microStep_cases h
  · exact quiet_placeMark h
  · exact quiet_placeMark h
  · exact quiet_placeMade h
  · exact quiet_placeMade h
  · simp [enterHeld_none (hr .a).2] at h
  · simp [enterHeld_none (hr .b).2] at h
  · exact quiet_advance hr h
  · exact quiet_advance hr h
  · exact quiet_flushComplete h
  · exact quiet_prepStart h
  · exact quiet_arbitrate h
  · simp [inbound_none hr] at h

theorem quiet_settle (hr : NoRecords s) : Quiet s (settle s) :=
  settle_keeps (P := Quiet s) (fun _ _ h hm => h.trans (quiet_microStep (h.records hr) hm)) (.refl s)

/-- Settling stops where there is nothing more to do. -/
theorem settle_of_rest (h : microStep s = none) : settle s = s := by
  rw [settle, settleFuel, settleFor, h]

/-- Settles O2: each field named is one that `standing` does not blank. -/
theorem settlingFrame : Obligations.SettlingFrame := by
  refine ⟨fun s h => settle_of_rest h, fun s ha hb hha hhb => ?_⟩
  have hr : NoRecords s := fun p => by cases p <;> exact ⟨‹_›, ‹_›⟩
  obtain ⟨h, -⟩ := quiet_settle hr
  generalize settle s = t at h
  have field {α : Type} (f : State → α) : f t.standing = f s.standing := congrArg f h
  exact ⟨field (·.pending), field (·.resetAsserted), field (·.powerWarn), field (·.prep), field (·.strap), field (·.medium),
    field (·.banks), field (·.objects), field (·.damage), field (·.overflow), field (·.curves), field (·.schedule),
    field (·.year), field (·.sequence), field (·.billingYear)⟩

end Sys2Proof.Machine
end

section
/-!
PROOF. The step, the state right after RESET, the refusals that every command has in common and the records that spell commands: O1, O6,
O8, O9 and O10.
-/

namespace Sys2Proof.Machine

open Sys2Proof

variable {s t : State} {p : Port} {tag : Tag}

/-! ## The step and the state after RESET -/

/-- Settles O1: the front command runs, and an idle step is a tick of the two timers. -/
theorem stepRunsFrontCommand : Obligations.StepRunsFrontCommand := by
  refine ⟨fun c s => rfl, fun s hs => ⟨tick s, by rw [step, hs], ?_, ?_, ?_, ?_⟩⟩
  · simp only [tick, tickUpkeep]
    split <;> rfl
  · intro hb; simp [tick, hb]
  · intro b hb; simp [tick, hb, tickBurst]
  · simp only [tick, tickUpkeep]
    split <;> rfl

theorem slotsSound_reset : SlotsSound State.reset where
  numbersRise := .nil
  tableForm := rfl
  noStoreOnB := nofun
  preparingBuffer := fun _ => rfl
  preparingBurst := nofun
  inReset := nofun
  law := fun h => absurd rfl h

/-- Settles O6: the reset state meets the four invariants, and its arbiter and upkeep engine hold the reset values. -/
theorem resetStateIsSound : Obligations.ResetStateIsSound :=
  ⟨bounded_reset, by intro e he; simp [State.reset] at he, rfl, slotsSound_reset, rfl, rfl, rfl, rfl, rfl, rfl, rfl, rfl, rfl, rfl,
    rfl, rfl, rfl⟩

/-! ## Header words (R160) -/

/-- The number that a COMMAND record's header spells has no carry out of its 32 bits. -/
theorem commandRecord_header_toNat {code : Nat} (hc : code < 64) (payload : List Word) :
    (commandRecord code tag payload).header.toNat =
      2 ^ 29 + payload.length % 512 * 2 ^ 20 + code * 2 ^ 8 + tag.toNat := by
  have htag : tag.toNat < 256 := tag.isLt
  have hlen : payload.length % 512 < 512 := Nat.mod_lt _ (by decide)
  rw [commandRecord, BitVec.toNat_ofNat, Nat.mod_eq_of_lt (by omega)]

theorem headerIsKnown_commandRecord {code : Nat} (h1 : 1 ≤ code) (h32 : code ≤ 32) (payload : List Word) :
    headerIsKnown (commandRecord code tag payload).header = true := by
  have htag : tag.toNat < 256 := tag.isLt
  have hlen : payload.length % 512 < 512 := Nat.mod_lt _ (by decide)
  have hkind : headerKind (commandRecord code tag payload).header = 1 := by
    rw [headerKind, commandRecord_header_toNat (by omega)]; omega
  have hcode : headerCode (commandRecord code tag payload).header = code := by
    rw [headerCode, commandRecord_header_toNat (by omega)]; omega
  simp [headerIsKnown, hkind, hcode, h1, h32]

theorem headerCode_commandRecord {code : Nat} (hc : code < 64) (payload : List Word) :
    headerCode (commandRecord code tag payload).header = code := by
  have htag : tag.toNat < 256 := tag.isLt
  rw [headerCode, commandRecord_header_toNat hc]; omega

theorem headerLength_commandRecord {code : Nat} (hc : code < 64) (payload : List Word) :
    headerLength (commandRecord code tag payload).header = payload.length % 512 := by
  have htag : tag.toNat < 256 := tag.isLt
  rw [headerLength, commandRecord_header_toNat hc]; omega

theorem headerTag_commandRecord {code : Nat} (hc : code < 64) (payload : List Word) :
    headerTag (commandRecord code tag payload).header = tag := by
  have htag : tag.toNat < 256 := tag.isLt
  apply BitVec.eq_of_toNat_eq
  rw [headerTag, BitVec.toNat_setWidth, commandRecord_header_toNat hc]; omega

/-- A COMMAND record of a known command with its own length runs that command. -/
theorem runRecord_commandRecord {code : Nat} {payload : List Word} (s : State) (hc : 1 ≤ code ∧ code ≤ 32)
    (hlen : payload.length = commandLength code) (h12 : payload.length ≤ 12) :
    runRecord p (commandRecord code tag payload) s = runCommand code p tag (commandRecord code tag payload) s := by
  obtain ⟨h1, h32⟩ := hc
  have hc64 : code < 64 := by omega
  unfold runRecord
  dsimp only
  rw [headerIsKnown_commandRecord h1 h32, headerLength_commandRecord hc64, headerCode_commandRecord hc64,
    headerTag_commandRecord hc64, if_neg (by simp), if_neg (by rw [Nat.mod_eq_of_lt (by omega), hlen]; simp)]

/-- The nine knots of a WRITE_CURVE record stand between its first two words and its lift. -/
theorem writeCurve_record {set pol lift : Word} {knots : List Word} (h : knots.length = 9) :
    runCommand 13 p tag (commandRecord 13 tag ([set, pol] ++ knots ++ [lift])) s =
      writeCurveRun p tag set pol knots lift s := by
  have hknots : (([set, pol] ++ knots ++ [lift]).drop 2).take 9 = knots := by simp [← h]
  have hlift : ([set, pol] ++ knots ++ [lift]).getD 11 0 = lift := by
    simp [List.getD_eq_getElem?_getD, h]
  change writeCurveRun p tag set pol ((([set, pol] ++ knots ++ [lift]).drop 2).take 9)
    (([set, pol] ++ knots ++ [lift]).getD 11 0) s = _
  rw [hknots, hlift]

/-- Settles O8: each of the 32 codes selects its command, with the record's words as its parameters. -/
theorem commandRecordsSpellCommands : Obligations.CommandRecordsSpellCommands := by
  intro p tag s
  have run {code : Nat} {payload : List Word} {t : State} (hc : 1 ≤ code ∧ code ≤ 32) (hlen : payload.length = commandLength code)
      (h12 : payload.length ≤ 12) (ht : runCommand code p tag (commandRecord code tag payload) s = t) :
      runRecord p (commandRecord code tag payload) s = t := (runRecord_commandRecord s hc hlen h12).trans ht
  have fixed {code : Nat} {payload : List Word} (hc : 1 ≤ code ∧ code ≤ 32) (hlen : payload.length = commandLength code)
      (h12 : payload.length ≤ 12) :
      runRecord p (commandRecord code tag payload) s = runCommand code p tag (commandRecord code tag payload) s := run hc hlen h12 rfl
  refine ⟨fun _ _ _ => fixed (by decide) rfl (by simp), fun _ _ _ _ _ _ => fixed (by decide) rfl (by simp),
    fun _ => fixed (by decide) rfl (by simp), fun _ _ _ => fixed (by decide) rfl (by simp),
    fun _ => fixed (by decide) rfl (by simp), fun _ _ _ _ _ _ _ _ => fixed (by decide) rfl (by simp),
    fun _ => fixed (by decide) rfl (by simp), fun _ => fixed (by decide) rfl (by simp),
    fun _ => fixed (by decide) rfl (by simp), fixed (by decide) rfl (by simp),
    fun _ => fixed (by decide) rfl (by simp), fixed (by decide) rfl (by simp),
    fun set pol knots lift h => run (by decide) (by simp [h, commandLength]) (by simp [h]) (writeCurve_record h),
    fun _ _ => fixed (by decide) rfl (by simp), fun _ _ _ _ _ => fixed (by decide) rfl (by simp),
    fixed (by decide) rfl (by simp), fun _ => fixed (by decide) rfl (by simp),
    fun _ => fixed (by decide) rfl (by simp), fun _ => fixed (by decide) rfl (by simp),
    fun _ => fixed (by decide) rfl (by simp), fun _ _ => fixed (by decide) rfl (by simp),
    fun _ => fixed (by decide) rfl (by simp), fun _ => fixed (by decide) rfl (by simp),
    fun _ _ _ => fixed (by decide) rfl (by simp), fun _ => fixed (by decide) rfl (by simp),
    fixed (by decide) rfl (by simp), fun _ => fixed (by decide) rfl (by simp),
    fun _ _ => fixed (by decide) rfl (by simp), fun _ => fixed (by decide) rfl (by simp),
    fun _ _ _ _ _ _ _ => fixed (by decide) rfl (by simp), fun _ => fixed (by decide) rfl (by simp),
    fixed (by decide) rfl (by simp)⟩

/-! ## The device state check and the port check (R151) -/

/-- A command that is judged alike, but for ORDER_REPRINT, is its row's submission of a run that is admitted first. -/
theorem exec_judged {c : Instr} {o : OpenTo} (s : State) (h : Instr.judged c = some (o, p, tag)) (hf : Instr.portFirst c = false) :
    ∃ r run w, exec c s = .next (submit p r run s) ∧ run s = whenAdmitted o p tag s w := by
  cases c with
  | orderReprint => simp [Instr.portFirst] at hf
  | writeCurve q g set pol knots lift =>
    simp only [Instr.judged] at h
    split at h
    · next hk =>
      simp only [Option.some.injEq, Prod.mk.injEq] at h
      obtain ⟨rfl, rfl, rfl⟩ := h
      exact ⟨_, _, _, rfl, by rw [writeCurveStart, if_neg (by simp [hk])]; rfl⟩
    · simp at h
  | _ =>
    simp only [Instr.judged, reduceCtorEq, Option.some.injEq, Prod.mk.injEq] at h <;>
      (obtain ⟨rfl, rfl, rfl⟩ := h; exact ⟨_, _, _, rfl, rfl⟩)

/-- ORDER_REPRINT alone makes its port check first. -/
theorem exec_portFirst {c : Instr} {o : OpenTo} (s : State) (h : Instr.judged c = some (o, p, tag))
    (hf : Instr.portFirst c = true) :
    o = .onlyB ∧ ∃ r object sc rc q a, exec c s = .next (submit p r (orderReprintRun p tag object sc rc q a) s) := by
  cases c with
  | orderReprint q g object sc rc n a =>
    simp only [Instr.judged, Option.some.injEq, Prod.mk.injEq] at h
    obtain ⟨rfl, rfl, rfl⟩ := h
    exact ⟨rfl, _, _, _, _, _, _, rfl⟩
  | _ => simp [Instr.portFirst] at hf

/-- Every command that is judged refuses by the device state, where its port check does not come first. -/
theorem exec_refused_device {c : Instr} {o : OpenTo} {cause : Cause} (h : Instr.judged c = some (o, p, tag))
    (hs : canStart p s = true) (hp : Instr.portFirst c = false ∨ p = .b) (hd : deviceRefusal s.device = some cause) :
    exec c s = .next (settle (pushOut p (refusedRecord tag cause []) s)) := by
  have hplace := canStart_hasPlace hs
  cases hf : Instr.portFirst c with
  | false =>
    obtain ⟨r, run, w, he, hr⟩ := exec_judged s h hf
    rw [he, submit_of_start hs, hr, whenAdmitted_of_device hd, refuse_of_place hplace]
  | true =>
    obtain ⟨-, r, object, sc, rc, q, a, he⟩ := exec_portFirst s h hf
    obtain rfl : p = .b := hp.resolve_left (by simp [hf])
    rw [he, submit_of_start hs, orderReprintRun, if_neg (by simp), hd]
    exact congrArg (Host.Outcome.next ∘ settle) (refuse_of_place hplace)

/-- Every command that is judged refuses a port it is not open to. -/
theorem exec_refused_port {c : Instr} {o : OpenTo} (h : Instr.judged c = some (o, p, tag)) (hs : canStart p s = true)
    (hd : s.device = .ready ∨ Instr.portFirst c = true) (ho : o.admits p = false) :
    exec c s = .next (settle (pushOut p (refusedRecord tag .wrongPort []) s)) := by
  have hplace := canStart_hasPlace hs
  cases hf : Instr.portFirst c with
  | false =>
    obtain ⟨r, run, w, he, hr⟩ := exec_judged s h hf
    rw [he, submit_of_start hs, hr, whenAdmitted_of_port (hd.resolve_right (by simp [hf])) ho, refuse_of_place hplace]
  | true =>
    obtain ⟨rfl, r, object, sc, rc, q, a, he⟩ := exec_portFirst s h hf
    cases p with
    | a =>
      rw [he, submit_of_start hs, orderReprintRun, if_pos rfl]
      exact congrArg (Host.Outcome.next ∘ settle) (refuse_of_place hplace)
    | b => simp [OpenTo.admits] at ho

/-- Settles O9: the device state check comes before the port check, but in ORDER_REPRINT. -/
theorem deviceStateAndPortRefuse : Obligations.DeviceStateAndPortRefuse := by
  intro c o p tag s h hs
  refine ⟨fun hp => ⟨fun hd => ?_, fun hd => ?_, fun hd => ?_, fun hd => ?_⟩, fun hf hp => ?_, fun hd ho hp => ?_, fun hd ho hp => ?_⟩
  · exact exec_refused_device h hs hp (by rw [hd]; rfl)
  · exact exec_refused_device h hs hp (by rw [hd]; rfl)
  · exact exec_refused_device h hs hp (by rw [hd]; rfl)
  · exact exec_refused_device h hs hp (by rw [hd]; rfl)
  · exact exec_refused_port h hs (.inr hf) (by rw [(exec_portFirst s h hf).1, hp]; rfl)
  · exact exec_refused_port h hs (.inl hd) (by rw [ho, hp]; rfl)
  · exact exec_refused_port h hs (.inl hd) (by rw [ho, hp]; rfl)

/-! ## Unknown commands, wrong lengths and RESET -/

theorem runRecord_unknown {r : InRecord} (h : headerIsKnown r.header = false) :
    runRecord p r s = refuse p (headerTag r.header) .unknownCommand s := by simp [runRecord, h]

theorem runRecord_wrongLength {r : InRecord} (h : headerIsKnown r.header = true)
    (hl : headerLength r.header ≠ commandLength (headerCode r.header)) :
    runRecord p r s = refuse p (headerTag r.header) .badField s := by simp [runRecord, h, hl]

theorem settle_in_reset (h : s.resetAsserted = true) : settle s = s := settle_of_rest (microStep_in_reset h)

theorem receive_in_reset (r : InRecord) (h : s.resetAsserted = true) : receive p r s = s := by simp [receive, h]

theorem submit_in_reset (r : InRecord) (run : State → State) (h : s.resetAsserted = true) : submit p r run s = s := by
  rw [submit_of_wait (by simp [canStart, h]), receive_in_reset r h, settle_in_reset h]

theorem takeInbound_in_reset (r : InRecord) (h : s.resetAsserted = true) : takeInbound p r s = s := by
  rcases takeInbound_cases p r s with ⟨-, e⟩ | ⟨-, e⟩ | ⟨-, e⟩ <;> rw [e]
  · exact receive_in_reset r h
  · simp [takesControl, h]
  · simp [takesControl, h]

/-- While RESET is asserted no record is taken (R159). -/
theorem exec_inbound_in_reset {c : Instr} (h : s.resetAsserted = true) (hc : Instr.inbound c = true) : exec c s = .next s := by
  cases c with
  | commandRecordReceived | dataRecordReceived | cancel | restart =>
    exact congrArg Host.Outcome.next ((congrArg settle (takeInbound_in_reset _ h)).trans (settle_in_reset h))
  | strayRecord p hd payload =>
    refine congrArg Host.Outcome.next ?_
    rw [if_neg (by simp [straysNow, h]), receive_in_reset _ h, settle_in_reset h]
  | _ => simp [Instr.inbound] at hc <;> exact congrArg Host.Outcome.next (submit_in_reset _ _ h)

/-- Settles O10: the two checks of R151 that look at the record alone, and RESET. -/
theorem unknownRecordsRefused : Obligations.UnknownRecordsRefused := by
  refine ⟨fun p h payload s hs => ⟨fun hk => ?_, fun hk hl => ?_⟩, fun c s h hc => exec_inbound_in_reset h hc⟩
  · refine congrArg Host.Outcome.next ?_
    rw [submit_of_start hs, runRecord_unknown hk, refuse_of_place (canStart_hasPlace hs)]
  · rw [runRecord_wrongLength hk hl, refuse_of_place (canStart_hasPlace hs)]

end Sys2Proof.Machine
end

section
/-!
PROOF. The links: the arrival of records, stray records, words that leave, CANCEL and RESTART: O36 to O40.
-/

namespace Sys2Proof.Machine

open Sys2Proof

variable {s t : State} {p : Port}

/-! ## Kinds of records (R161) -/

theorem kindField_toNat (h : Word) : (h.extractLsb' 29 3).toNat = headerKind h := by
  rw [BitVec.extractLsb'_toNat, Nat.shiftRight_eq_div_pow, headerKind]

theorem headerKind_eq_iff {h : Word} {k : BitVec 3} : headerKind h = k.toNat ↔ h.extractLsb' 29 3 = k := by
  rw [← kindField_toNat, BitVec.toNat_inj]

theorem inboundKind_data {h : Word} (hk : headerKind h = 2) : inboundKind h = .data := by simp [inboundKind, hk]

theorem inboundKind_cancel {h : Word} (hk : headerKind h = 3) : inboundKind h = .cancel := by simp [inboundKind, hk]

theorem inboundKind_restart {h : Word} (hk : headerKind h = 4) : inboundKind h = .restart := by simp [inboundKind, hk]

theorem inboundKind_command {h : Word} (h2 : headerKind h ≠ 2) (h3 : headerKind h ≠ 3) (h4 : headerKind h ≠ 4) :
    inboundKind h = .command := by
  unfold inboundKind
  split <;> simp_all

/-! ## Arrival in the input queue (R149) -/

theorem takeInbound_queue {r : InRecord} (h : inboundKind r.header = .command ∨ inboundKind r.header = .data) :
    takeInbound p r s = receive p r s := by
  unfold takeInbound
  rcases h with h | h <;> rw [h]

theorem receive_of_held {r : InRecord} (h : (s.port p).held ≠ none) : receive p r s = s := by
  rw [receive, if_pos (by simp [Option.isSome_iff_ne_none.mpr h])]

theorem receive_of_full {r : InRecord} (hr : s.resetAsserted = false) (hh : (s.port p).held = none)
    (hq : 8 ≤ (s.port p).inq.length) : receive p r s = s.modPort p fun e => { e with held := some r } := by
  rw [receive, if_neg (by simp [hr, hh]), if_neg (by omega)]

theorem receive_of_place {r : InRecord} (hr : s.resetAsserted = false) (hh : (s.port p).held = none)
    (hq : (s.port p).inq.length < 8) : receive p r s = enterRecord p r s := by
  rw [receive, if_neg (by simp [hr, hh]), if_pos hq]

theorem enterRecord_good {r : InRecord} (hm : malformed r = false) (hl : headerLength r.header ≤ 256) :
    enterRecord p r s = s.modPort p fun e => { e with inq := e.inq ++ [r] } := by
  rw [enterRecord, if_neg (by simp [hm]), if_neg (by omega)]

theorem enterRecord_long {r : InRecord} (hm : malformed r = false) (hl : 256 < headerLength r.header) :
    enterRecord p r s = s.modPort p fun e => { e with inq := e.inq ++ [⟨r.header, []⟩] } := by
  rw [enterRecord, if_neg (by simp [hm]), if_pos hl]

theorem enterRecord_malformed {r : InRecord} (hm : malformed r = true) :
    enterRecord p r s = raiseStray (headerLength r.header) p s := by rw [enterRecord, if_pos hm]

/-- Settles O36: the row of a record by its kind, and where COMMAND and DATA records go. -/
theorem recordsEnterInputQueue : Obligations.RecordsEnterInputQueue := by
  refine ⟨fun p h ws => ⟨fun hk => ?_, fun hk => ?_, fun hk => ?_, fun h2 h3 h4 => ?_⟩, fun p h payload s hr => ⟨fun hc => ?_, fun hd => ?_⟩⟩
  · rw [receivedRow, inboundKind_data (headerKind_eq_iff.mpr hk)]
  · rw [receivedRow, inboundKind_cancel (headerKind_eq_iff.mpr hk)]
  · rw [receivedRow, inboundKind_restart (headerKind_eq_iff.mpr hk)]
  · rw [receivedRow, inboundKind_command (mt (headerKind_eq_iff (k := 2)).mp h2)
      (mt (headerKind_eq_iff (k := 3)).mp h3) (mt (headerKind_eq_iff (k := 4)).mp h4)]
  · obtain ⟨h2, h3, h4⟩ : headerKind h ≠ 2 ∧ headerKind h ≠ 3 ∧ headerKind h ≠ 4 := by simpa [headerIsCommand] using hc
    have hin (t : State) (ht : receive p ⟨h, payload⟩ s = t) : exec (.commandRecordReceived p h payload) s = .next (settle t) :=
      congrArg (Host.Outcome.next ∘ settle) ((takeInbound_queue (.inl (inboundKind_command h2 h3 h4))).trans ht)
    have hm : malformed ⟨h, payload⟩ = false := by simp [malformed, headerIsData, h2]
    exact ⟨fun hh => hin _ (receive_of_held hh), fun hh hq => hin _ (receive_of_full hr hh hq), fun hh hq =>
      ⟨fun hl => hin _ ((receive_of_place hr hh hq).trans (enterRecord_good hm hl)),
        fun hl => hin _ ((receive_of_place hr hh hq).trans (enterRecord_long hm hl))⟩⟩
  · have h2 : headerKind h = 2 := by simpa [headerIsData] using hd
    have hin (t : State) (ht : receive p ⟨h, payload⟩ s = t) : exec (.dataRecordReceived p h payload) s = .next (settle t) :=
      congrArg (Host.Outcome.next ∘ settle) ((takeInbound_queue (.inr (inboundKind_data h2))).trans ht)
    refine ⟨fun hh => hin _ (receive_of_held hh), fun hh hq => hin _ (receive_of_full hr hh hq), fun hh hq => ⟨fun h1 hl => ?_, fun hl => ?_⟩⟩
    · have hm : malformed ⟨h, payload⟩ = false := by simp [malformed, hd]; omega
      exact hin _ ((receive_of_place hr hh hq).trans (enterRecord_good hm hl))
    · have hm : malformed ⟨h, payload⟩ = true := by simpa [malformed, hd] using hl
      exact hin _ ((receive_of_place hr hh hq).trans (enterRecord_malformed hm))

/-! ## Stray records and words that leave -/

theorem hasPlace_iff {e : PortEngine} : e.hasPlace = true ↔ e.outq.length < 16 := by simp [PortEngine.hasPlace]

theorem hasPlace_false_iff {e : PortEngine} : e.hasPlace = false ↔ 16 ≤ e.outq.length := by simp [PortEngine.hasPlace]

/-- A change of a port looks at what the port is. -/
theorem modPort_congr {f g : PortEngine → PortEngine} (h : f (s.port p) = g (s.port p)) : s.modPort p f = s.modPort p g := by
  rw [State.modPort, State.modPort, h]

theorem exec_strayRecord {h : Word} {payload : List Word} (hs : straysNow p s = true) :
    exec (.strayRecord p h payload) s = .next (settle (raiseStray (headerLength h) p s)) := by
  rw [exec, execStrayRecord, if_pos hs]

/-- Settles O37: the record is stray at once (`exec_strayRecord`), and its notice finds a place or joins the mark. -/
theorem strayRecordRaisesNotice : Obligations.StrayRecordRaisesNotice := by
  intro p h payload s hr hrs hq hh ho
  rw [exec_strayRecord (by simp [straysNow, hr, hrs, hq, hh, ho, takesData])]
  refine ⟨fun hp hm => ?_, fun hp hm => ?_, fun m hm => ?_⟩
  · rw [raiseStray, if_pos (by rw [hasPlace_iff.mpr hp, hm]; rfl)]
  · rw [raiseStray, if_neg (by simp [hasPlace_false_iff.mpr hp]), modPort_congr]
    simp [hm, mergeStray]
  · rw [raiseStray, if_neg (by simp [hm]), modPort_congr]
    simp [hm, mergeStray]

/-- Settles O38: the words of the head record decide whether the word taken is its last. -/
theorem outboundWordsLeave : Obligations.OutboundWordsLeave := by
  intro p s
  refine ⟨fun r rest hr hq => ⟨?_, fun hlt => ?_, fun hle => ?_⟩, fun h => ?_⟩
  · rw [exec, execRecordTaken, hr, hq]
    exact congrArg (Host.Outcome.next ∘ settle) (modPort_congr (by simp [hq]))
  · simp only [exec, execOutboundWordTaken, hr, hq, if_pos hlt]
  · simp only [exec, execOutboundWordTaken, hr, hq, if_neg (Nat.not_lt.mpr hle)]
  · rcases h with h | h <;> simp [exec, execRecordTaken, execOutboundWordTaken, h]

/-! ## The entry of an order -/

variable {before after : List JournalEntry} {e : JournalEntry} {n : BitVec 32}

theorem findEntry_of_split (hj : s.journal = before ++ e :: after) (hb : ∀ f ∈ before, f.sequence ≠ n) (he : e.sequence = n) :
    s.findEntry n = some e := by
  have hnone : before.find? (fun f => f.sequence == n) = none := by simpa using hb
  simp [State.findEntry, hj, List.find?_append, hnone, he]

/-- A PROVISIONAL entry is voided where it stands (R143). -/
theorem voidOrder_of_split (hj : s.journal = before ++ e :: after) (hb : ∀ f ∈ before, f.sequence ≠ n)
    (ha : ∀ f ∈ after, f.sequence ≠ n) (he : e.sequence = n) (hp : e.state = .provisional) :
    voidOrder n s = { s with journal := before ++ voidEntry e :: after, billingPending := true } := by
  have hmap (l : List JournalEntry) (h : ∀ f ∈ l, f.sequence ≠ n) :
      (l.map fun f => if f.sequence = n ∧ f.state = .provisional then voidEntry f else f) = l :=
    (List.map_congr_left fun f hf => if_neg fun hc => h f hf hc.1).trans (List.map_id' l)
  rw [voidOrder, if_pos (by simp [hj, he, hp])]
  simp only [hj, List.map_append, List.map_cons, hmap _ hb, hmap _ ha, he, hp, and_self, if_true]

/-- The response of an order that ends CANCELLED carries its entry and the samples placed. -/
theorem orderResponse_cancelled {o : OrderCtx} (h : s.findEntry o.sequence = some e) :
    orderResponse s o .cancelled = ⟨o.render.tag, .cancelled, none, [],
      [e.sequence, entryFlagsWord e, digitsWord 8 e.net, numberWord o.render.samplesPlaced]⟩ := by
  rw [orderResponse, h]; rfl

/-! ## CANCEL (R156) -/

/-- An operation is replaced, and the data records at the head of the input queue are discarded. -/
def State.cutOp (s : State) (p : Port) (o : Op) : State := s.modPort p fun e => { e with op := o, inq := discardData e.inq }

/-- A render's operation is replaced: its snapshot goes besides. -/
def State.cutRender (s : State) (p : Port) (o : Op) : State :=
  s.modPort p fun e => { e with op := o, snapshot := none, inq := discardData e.inq }

theorem cutOp_eq (o : Op) : ((s.setOp p o).modPort p fun e => { e with inq := discardData e.inq }) = s.cutOp p o := by
  cases p <;> rfl

theorem cut_renderCancelled (c : RenderCtx) : ((renderCancelled p c s).modPort p fun e => { e with inq := discardData e.inq }) =
    s.cutRender p (.respond (c.response .cancelled c.samplesPlaced (snapshotSet s p)) (some c.key) false) := by
  cases p <;> rfl

theorem cut_orderCancelled {o : OrderCtx} (h : s.findEntry o.sequence = some e) :
    ((orderCancelled p o s).modPort p fun e => { e with inq := discardData e.inq }) =
      s.cutRender p (.respond ⟨o.render.tag, .cancelled, none, [],
        [e.sequence, entryFlagsWord e, digitsWord 8 e.net, numberWord o.render.samplesPlaced]⟩ (some o.render.key) false) := by
  rw [orderCancelled, orderResponse_cancelled h]
  cases p <;> rfl

theorem exec_cancel {h : Word} {ws : List Word} (hk : headerKind h = 3) (hr : s.resetAsserted = false)
    (hh : (s.port p).held = none) : exec (.cancel p ⟨h, ws⟩) s = .next (settle (takeCancel p s)) := by
  refine congrArg (Host.Outcome.next ∘ settle) ?_
  simp [takeInbound, inboundKind_cancel hk, takesControl, hr, hh]

/-- The table of R72 without an edition's entry. -/
theorem removeLock_eq (k : EditionKey) (s : State) : removeLock k s =
    { s with locks := s.locks.map fun (l : Option LockEntry) => if l.any (fun e => e.key == k) then none else l } := by
  rw [removeLock]
  congr 2
  funext l
  cases l with
  | none => simp
  | some e => by_cases h : e.key = k <;> simp [h]

/-- Settles O39: R156's table, row by row. -/
theorem cancelEndsOperation : Obligations.CancelEndsOperation := by
  intro p h ws s hk hr hh hrs
  have answers (t : State) (ht : takeCancel p s = t) : exec (.cancel p ⟨h, ws⟩) s = .next (settle t) :=
    ht ▸ exec_cancel hk hr hh
  refine ⟨fun ho => ?_, fun r k st ho => ?_, fun c ho he => ?_, fun c ho he => ?_, fun c ho => ⟨fun hc => ?_, fun hc hb => ?_, fun hc hb => ?_⟩,
    fun tag key ho => ?_, fun tag bank ho => ?_, fun tag bank ho => ?_, fun r w ho => ⟨fun hb => ?_, fun hb => ?_⟩,
    fun o before after e ho hj hbe haf hs => ⟨fun hp => ⟨fun w hw => ?_, fun hw hc hb => ?_, fun hw hc hb => ?_⟩, fun hw hc => ?_,
      fun w hw => ⟨fun hb => ?_, fun hb => ?_⟩⟩⟩ <;> apply answers <;> simp only [takeCancel, hrs, ho, ne_eq, not_true_eq_false, if_false]
  · simp [cancelOp, ho, he]
  · simp only [cancelOp, ho, he, Option.isNone_none, if_true]
    exact cutOp_eq _
  · simp [cancelOp, ho, hc]
  · simp only [cancelOp, ho, hc, hb, Bool.false_eq_true, if_false]
    exact cut_renderCancelled c
  · simp only [cancelOp, ho, hc, hb, Bool.false_eq_true, if_false, if_true]
    exact cutOp_eq _
  · simp only [cancelOp, ho, removeLock_eq]
    exact cutOp_eq _
  · simp only [cancelOp, ho]
  · simp only [cancelOp, ho]
    exact cutOp_eq _
  · simp [hb]
  · simp only [hb, if_true, endWait, ho]
    exact cutOp_eq _
  · simp only [hw, cancelOp, ho, voidOrder_of_split hj hbe haf hs hp]
    exact cut_orderCancelled (e := voidEntry e) (findEntry_of_split rfl hbe hs)
  · simp only [hw, cancelOp, ho, hc, hb, Bool.false_eq_true, if_false, voidOrder_of_split hj hbe haf hs hp]
    exact cut_orderCancelled (e := voidEntry e) (findEntry_of_split rfl hbe hs)
  · simp only [hw, cancelOp, ho, hc, hb, Bool.false_eq_true, if_false, if_true, voidOrder_of_split hj hbe haf hs hp]
    exact cutOp_eq _
  · simp [hw, cancelOp, ho, hc]
  · simp [hw, hb]
  · simp only [hw, hb, if_true, endWait, ho]
    exact cut_orderCancelled (findEntry_of_split hj hbe hs)

/-! ## RESTART (R157) -/

theorem lockOf_congr {k : EditionKey} (h : t.locks = s.locks) : lockOf t k = lockOf s k := by rw [lockOf, lockOf, h]

theorem releaseHeld_frame (k : EditionKey) (s : State) :
    releaseHeld k s = { s with locks := (removeLock k s).locks, editions := (releaseHeld k s).editions
                               dirty := (releaseHeld k s).dirty } := by
  unfold releaseHeld
  split
  · rfl
  · split <;> rfl

theorem lockOf_releaseHeld (k q : EditionKey) (s : State) : lockOf (releaseHeld k s) q = lockOf (removeLock k s) q :=
  lockOf_congr (by rw [releaseHeld_frame])

/-- An edition that has no lock, or whose lock is taken out, has none afterwards. -/
theorem lockOf_removeLock_none {k q : EditionKey} (h : q = k ∨ lockOf s q = none) : lockOf (removeLock k s) q = none := by
  by_cases hq : q = k
  · rw [hq, lockOf_removeLock_same]
  · rw [lockOf_removeLock_other s hq]
    exact h.resolve_left hq

/-- One step of the release of every lock (R80). -/
def releaseOne (s : State) (x : EditionKey × LockState) : State :=
  match x.2 with
  | .held => releaseHeld x.1 s
  | .pending => removeLock x.1 s

/-- The editions with an entry in the lock table, and the states of their entries. -/
def lockKeys (s : State) : List (EditionKey × LockState) := s.locks.filterMap fun l => l.map fun e => (e.key, e.state)

theorem releaseAll_eq (s : State) : releaseAll s = (lockKeys s).foldl releaseOne s := by
  rw [releaseAll, lockKeys]
  congr 1
  congr 1
  funext l
  cases l <;> rfl

theorem releaseOne_frame (s : State) (x : EditionKey × LockState) :
    ∃ l ed d, releaseOne s x = { s with locks := l, editions := ed, dirty := d } := by
  obtain ⟨k, st⟩ := x
  cases st with
  | held => exact ⟨_, _, _, releaseHeld_frame k s⟩
  | pending => exact ⟨_, _, _, rfl⟩

theorem releaseAll_frame (s : State) : ∃ l ed d, releaseAll s = { s with locks := l, editions := ed, dirty := d } := by
  rw [releaseAll_eq]
  generalize lockKeys s = keys
  induction keys generalizing s with
  | nil => exact ⟨_, _, _, rfl⟩
  | cons x rest ih =>
    obtain ⟨l, ed, d, hx⟩ := releaseOne_frame s x
    obtain ⟨l', ed', d', h⟩ := ih (releaseOne s x)
    exact ⟨l', ed', d', by rw [List.foldl_cons, h, hx]⟩

theorem lockOf_foldl_releaseOne {keys : List (EditionKey × LockState)} {q : EditionKey}
    (h : q ∈ keys.map (·.1) ∨ lockOf s q = none) : lockOf (keys.foldl releaseOne s) q = none := by
  induction keys generalizing s with
  | nil => simpa using h
  | cons x rest ih =>
    refine ih ?_
    have hone : lockOf (releaseOne s x) q = lockOf (removeLock x.1 s) q := by
      obtain ⟨k, st⟩ := x
      cases st with
      | held => exact lockOf_releaseHeld k q s
      | pending => rfl
    rw [hone]
    simp only [List.map_cons, List.mem_cons] at h
    rcases h with (h | h) | h
    · exact .inr (lockOf_removeLock_none (.inl h))
    · exact .inl h
    · exact .inr (lockOf_removeLock_none (.inr h))

/-- After the release of every lock no edition has one (R80). -/
theorem lockOf_releaseAll (s : State) (q : EditionKey) : lockOf (releaseAll s) q = none := by
  rw [releaseAll_eq]
  refine lockOf_foldl_releaseOne ?_
  by_cases h : lockOf s q = none
  · exact .inr h
  · refine .inl ?_
    simp only [lockOf, List.findSome?_eq_none_iff, not_forall] at h
    obtain ⟨l, hl, hne⟩ := h
    rcases l with _ | e
    · simp at hne
    · have hk : e.key = q := by
        by_contra hk
        simp [hk] at hne
      simp only [lockKeys, List.mem_map, List.mem_filterMap, Prod.exists, exists_and_right, exists_eq_right]
      exact ⟨e.state, some e, hl, by simp [hk]⟩

theorem lockBecomesHeld_portB (k : EditionKey) (s : State) : (lockBecomesHeld k s).portB = s.portB := by
  unfold lockBecomesHeld
  split
  · dsimp only
    split
    · split <;> rfl
    · rfl
  · rfl

/-- The port whose operation has ended is free, and has no snapshot. -/
theorem endOp_port_same (p : Port) (s : State) : (endOp p s).port p = { s.port p with op := .idle, snapshot := none } := by
  cases p with
  | a => rfl
  | b =>
    unfold endOp
    dsimp only
    split
    · exact lockBecomesHeld_portB _ _
    · rfl

theorem releaseAll_port (s : State) (p : Port) : (releaseAll s).port p = s.port p := by
  obtain ⟨l, ed, d, h⟩ := releaseAll_frame s
  rw [h]
  cases p <;> rfl

/-- What a RESTART leaves of its operation (R157 steps 2 to 4). -/
theorem restartEnds_port (p : Port) (s : State) : ((restartEnds p s).port p).op = .idle ∧
    ((restartEnds p s).port p).snapshot = none ∧ ((restartEnds p s).port p).restart = .answering := by
  unfold restartEnds
  dsimp only
  cases p <;> simp [releaseAll_port, endOp_port_same]

theorem lockOf_restartEnds (q : EditionKey) (s : State) : lockOf (restartEnds .a s) q = none := by
  unfold restartEnds
  dsimp only
  rw [lockOf_congr (modPort_locks _ _ _), lockOf_releaseAll]

/-- Settles O40: the queues and marks by `takeRestart`, the end of the operation by `restartEnds_port`, then the one response. -/
theorem restartReturnsPort : Obligations.RestartReturnsPort := by
  intro p h ws s hk hr hh
  have hin : exec (.restart p ⟨h, ws⟩) s = .next (settle (takeRestart p s)) := by
    refine congrArg (Host.Outcome.next ∘ settle) ?_
    simp [takeInbound, inboundKind_restart hk, takesControl, hr, hh]
  refine ⟨fun hrs => ?_, fun hrs => ?_, fun hrs hb => ?_, fun hrs hq => ?_⟩
  · rw [hin]
    exact congrArg (Host.Outcome.next ∘ settle) (modPort_congr (by simp [hrs]))
  · rw [hin]
    exact congrArg (Host.Outcome.next ∘ settle) (modPort_congr (by simp [hrs]))
  · obtain ⟨ho, hn, ha⟩ := restartEnds_port p s
    refine ⟨restartEnds p s, by simp [advance, advanceRestart, hrs, hb], ho, hn, ha, fun hp q => ?_⟩
    subst hp
    exact lockOf_restartEnds q s
  · rw [advance, if_pos (by simp [hrs]), advanceRestart, hrs]
    simp only [hasPlace_iff.mpr hq, if_true, Option.some.injEq]
    cases p <;> rfl

end Sys2Proof.Machine
end

section
/-!
PROOF. Lemmas about the catalogue tables, and the commands on editions and locks: O11, O12, O16, O18 and O19.
-/

namespace Sys2Proof.Assoc

variable {β : Type} {rank : β → Nat} {q : β → Bool} {x : β} {l : List β}

/-- An element inserted by rank does not hide the first one that is looked for, unless it is looked for itself. -/
theorem find?_insertBy_of_not (h : q x = false) : (insertBy rank x l).find? q = l.find? q := by
  induction l with
  | nil => simp [insertBy, h]
  | cons y rest ih =>
    simp only [insertBy]
    split
    · simp [h]
    · simp only [List.find?_cons, ih]

theorem find?_insertBy_of_none (hx : q x = true) (h : l.find? q = none) : (insertBy rank x l).find? q = some x := by
  induction l with
  | nil => simp [insertBy, hx]
  | cons y rest ih =>
    simp only [List.find?_cons] at h
    split at h
    · simp at h
    · next hy =>
      simp only [insertBy]
      split
      · simp [hx]
      · simp [hy, ih h]

end Sys2Proof.Assoc

namespace Sys2Proof.Machine

open Sys2Proof

variable {s t : State} {p : Port} {tag : Tag} {k q : EditionKey} {e : EditionRec}

/-! ## The edition table -/

/-- A change of an edition that keeps its key is found under that key. -/
theorem findEdition_modEdition_same {f : EditionRec → EditionRec} (hf : ∀ e, (f e).key = e.key) (h : s.findEdition k = some e) :
    (s.modEdition k f).findEdition k = some (f e) := by
  have hkey : ((fun e : EditionRec => e.key == k) ∘ fun e => if e.key = k then f e else e) = fun e => e.key == k := by
    funext x
    by_cases hx : x.key = k <;> simp [hx, hf]
  simp only [State.findEdition, State.modEdition, List.find?_map, hkey]
  rw [State.findEdition] at h
  rw [h, Option.map_some, if_pos (findEdition_key (s := s) h)]

theorem findEdition_modEdition_other {f : EditionRec → EditionRec} (hf : ∀ e, (f e).key = e.key) (hq : q ≠ k) :
    (s.modEdition k f).findEdition q = s.findEdition q := by
  have hkey : ((fun e : EditionRec => e.key == q) ∘ fun e => if e.key = k then f e else e) = fun e => e.key == q := by
    funext x
    by_cases hx : x.key = k <;> simp [hx, hf]
  simp only [State.findEdition, State.modEdition, List.find?_map, hkey]
  cases h : s.editions.find? fun e => e.key == q with
  | none => rfl
  | some e =>
    have he : e.key = q := findEdition_key (s := s) h
    rw [Option.map_some, if_neg (by rw [he]; exact hq)]

theorem freePosition_eq {pos : Nat} (h : pos < 2048) (hfree : ∀ e ∈ s.editions, e.position ≠ pos)
    (hlow : ∀ n < pos, ∃ e ∈ s.editions, e.position = n) : freePosition s = some pos := by
  rw [freePosition, List.find?_range_eq_some]
  refine ⟨by simpa using hfree, by simpa using h, fun n hn => ?_⟩
  obtain ⟨e, he, rfl⟩ := hlow n hn
  simpa using ⟨e, he, rfl⟩

/-- An edition may be changed when it is OPEN or its lock is HELD by Port A (R32). -/
theorem mayChange_iff (hk : e.key = k) : mayChange s e = true ↔ e.state = .opened ∨ lockOf s k = some .held := by
  simp [mayChange, heldLock, hk]

theorem not_mayChange (hk : e.key = k) (hc : e.state = .closed) (hl : lockOf s k ≠ some .held) : ¬ mayChange s e = true := by
  rw [mayChange_iff hk, hc]
  simp [hl]

/-- A group marked dirty joins the dirty groups. -/
theorem mem_dirty_mark {g h : Nat} : h ∈ (markDirty g s).dirty ↔ h ∈ s.dirty ∨ h = g := by rw [mem_markDirty, or_comm]

/-! ## Commands that start at once -/

/-- A command that starts at once on a port it is open to, in READY, comes to what its run gives. -/
theorem exec_accepted {c : Instr} {o : OpenTo} {r : InRecord} {run : State → State} {w : State} (h : Accepts p s)
    (hc : exec c s = .next (submit p r run s)) (hr : run s = whenAdmitted o p tag s w) (ho : o.admits p = true) (ht : w = t) :
    exec c s = .next (settle t) := by
  rw [hc, submit_of_start h.1, hr, whenAdmitted_of_ready h.2 ho, ht]

/-- An answer to a command that started at once finds its place, where the command has not touched its port. -/
theorem answer_of_accepts {r : Response} (h : Accepts p s) (hp : t.port p = s.port p) :
    answer p r t = pushOut p (.response r) t := answer_of_place (by rw [hp]; exact canStart_hasPlace h.1)

theorem refuse_of_accepts {cause : Cause} (h : Accepts p s) : refuse p tag cause s = pushOut p (refusedRecord tag cause []) s :=
  answer_of_accepts h rfl

theorem refuseWith_of_accepts {cause : Cause} {ws : List Word} (h : Accepts p s) :
    refuseWith p tag cause ws s = pushOut p (refusedRecord tag cause ws) s := answer_of_accepts h rfl

/-! ## OPEN_EDITION, AMEND_EDITION and CLOSE_EDITION -/

theorem exec_openEdition_accepted {key era resale : Word} {r : Resale} {pos : Nat} (h : Accepts .a s)
    (hk : keyInRange (keyOf key) = true) (he : numberOf era ≤ 7) (hr : resaleOf (numberOf resale) = some r)
    (hn : s.findEdition (keyOf key) = none) (hp : freePosition s = some pos) :
    exec (.openEdition .a tag key era resale) s = .next (settle (pushOut .a (doneRecord tag [] [])
      (addEdition (newEdition pos (keyOf key) (numberOf era) r) s))) := by
  refine exec_accepted h rfl rfl rfl ?_
  simp only [hr, hk, Nat.not_lt.mpr he, hn, hp, not_true_eq_false, or_self, if_false, Option.isSome_none, Bool.false_eq_true]
  exact answer_of_accepts h rfl

/-- An edition's record is changed and its group marked dirty: what each key finds, and which groups are dirty. -/
theorem editionChange_effect {f : EditionRec → EditionRec} (hf : ∀ e, (f e).key = e.key) (h : s.findEdition k = some e) :
    let t := markDirty (editionGroup e.position) (s.modEdition k f)
    t = { s with editions := t.editions, dirty := t.dirty } ∧ t.findEdition k = some (f e) ∧
      (∀ q, q ≠ k → t.findEdition q = s.findEdition q) ∧ ∀ g, g ∈ t.dirty ↔ g ∈ s.dirty ∨ g = 3 + e.position / 256 :=
  ⟨rfl, findEdition_modEdition_same hf h, fun _ hq => findEdition_modEdition_other hf hq, fun _ => mem_dirty_mark⟩

/-- Settles O11: the new record is inserted by position, and the amended one replaced in place (`editionChange_effect`). -/
theorem openAndAmendEdition : Obligations.OpenAndAmendEdition := by
  refine ⟨fun tag key era resale r pos s hs hk he hr hn hp hfree hlow => ?_, fun tag key era resale r e s hs hk he hr hf => ⟨fun hc => ?_, fun hc => ?_⟩⟩
  · refine ⟨_, exec_openEdition_accepted hs hk he hr hn (freePosition_eq hp hfree hlow), rfl, ?_, fun q hq => ?_, fun g => ?_⟩
    · exact Assoc.find?_insertBy_of_none (by simp [newEdition]) hn
    · exact Assoc.find?_insertBy_of_not (by simpa [newEdition] using Ne.symm hq)
    · exact mem_dirty_mark
  · have hmay : mayChange s e = true := (mayChange_iff (findEdition_key hf)).mpr hc
    have heff := editionChange_effect (f := fun e => { e with era := numberOf era, resale := r }) (fun _ => rfl) hf
    refine ⟨_, exec_accepted hs rfl rfl rfl ?_, heff⟩
    simp only [hr, hk, Nat.not_lt.mpr he, hf, hmay, not_true_eq_false, or_self, if_false]
    exact answer_of_accepts hs rfl
  · have hmay : mayChange s e = false := by simpa using not_mayChange (findEdition_key hf) hc.1 hc.2
    refine exec_accepted hs rfl rfl rfl ?_
    simp only [hr, hk, Nat.not_lt.mpr he, hf, hmay, not_true_eq_false, or_self, if_false, Bool.false_eq_true, not_false_eq_true,
      if_true]
    exact refuse_of_accepts hs

/-- The tiles of every object of a list are written. -/
theorem firstIncomplete_none {refs : List ObjectRef}
    (h : ∀ r ∈ refs, ∀ o, s.findObject r.number = some o → ∀ m ∈ o.tileMap, m.written = true) : firstIncomplete s refs = none := by
  rw [firstIncomplete, List.findSome?_eq_none_iff]
  intro r hr
  split
  · rfl
  · next o ho =>
    rw [Option.map_eq_none_iff, List.findIdx?_eq_none_iff]
    intro m hm
    simp [h r hr o ho m hm]

/-- The first object of the list with an unwritten tile is named, with its lowest unwritten tile (R34). -/
theorem firstIncomplete_eq {before after : List ObjectRef} {r : ObjectRef} {o : ObjectRec} {i : Nat} {m : MapEntry}
    (hb : ∀ q ∈ before, ∀ u, s.findObject q.number = some u → ∀ m ∈ u.tileMap, m.written = true)
    (ho : s.findObject r.number = some o) (hi : o.tileMap[i]? = some m) (hw : m.written = false)
    (hlow : ∀ j < i, ∀ m, o.tileMap[j]? = some m → m.written = true) :
    firstIncomplete s (before ++ r :: after) = some (o.number, i) := by
  have hbefore : firstIncomplete s before = none := firstIncomplete_none hb
  have hidx : o.tileMap.findIdx? (fun m => !m.written) = some i := by
    obtain ⟨hlt, rfl⟩ := List.getElem?_eq_some_iff.mp hi
    rw [List.findIdx?_eq_some_iff_getElem]
    exact ⟨hlt, by simp [hw], fun j hj => by simp [hlow j hj _ (List.getElem?_eq_getElem (hj.trans hlt))]⟩
  rw [firstIncomplete] at hbefore ⊢
  rw [List.findSome?_append, hbefore, Option.none_or, List.findSome?_cons, ho]
  simp [hidx]

/-- Settles O12: the answer turns on `firstIncomplete`, none of a complete edition and else the first unwritten tile. -/
theorem closeEditionClosesComplete : Obligations.CloseEditionClosesComplete := by
  intro tag key e s hs hk hf ho
  have hopen : ¬ e.state = .closed := by simp [ho]
  refine ⟨fun hn => ⟨Config.unnamedObject s.freeCount, exec_accepted hs rfl rfl rfl ?_⟩, fun hn hw => ?_,
    fun before after r o i m hsplit hb hr hi hwr hlow => exec_accepted hs rfl rfl rfl ?_⟩
  · simp only [hk, hf, hopen, hn, not_true_eq_false, if_false, if_true, refuseEmpty, refuseWith, incompleteWord,
      Nat.mod_eq_of_lt (Config.unnamedObject s.freeCount).isLt]
    exact answer_of_accepts hs rfl
  · refine ⟨_, exec_accepted hs rfl rfl rfl ?_, editionChange_effect (f := fun e => { e with state := .closed }) (fun _ => rfl) hf⟩
    simp only [hk, hf, hopen, hn, not_true_eq_false, if_false, firstIncomplete_none hw]
    exact answer_of_accepts hs rfl
  · have hn : e.objects ≠ [] := by simp [hsplit]
    simp only [hk, hf, hopen, hn, not_true_eq_false, if_false]
    rw [hsplit, firstIncomplete_eq hb hr hi hwr hlow]
    exact refuseWith_of_accepts hs

/-! ## Queries -/

theorem hiddenFrom_eq_false (h : p = .a ∨ lockOf s k = none) : hiddenFrom s p k = false := by
  rcases h with rfl | h
  · rfl
  · simp [hiddenFrom, h]

theorem hiddenFrom_eq_true (h : lockOf s k ≠ none) : hiddenFrom s .b k = true := by
  simp [hiddenFrom, Option.isSome_iff_ne_none.mpr h]

theorem statusWords_eq (s : State) : statusWords s =
    [deviceWord s.device, numberWord s.strap.toNat, bankStatesWord (reportedBanks s)] ++
      if s.device = .preparing ∨ s.device = .faulted then List.replicate 15 0
      else [numberWord (usableFree s), numberWord (retiredCount s), numberWord s.damage.length, flagWord s.overflow,
            numberWord s.journal.length, numberWord (s.journal.countP fun e => e.state != .provisional)] ++
        s.locks.map lockEntryWord ++
        [flagWord (bankOffline s 0 && (!s.dirty.isEmpty || s.billingPending))] := by
  have hready : entryReady = fun e => e.state != .provisional := rfl
  unfold statusWords
  cases s.device <;> simp [catalogueStale, hready]

/-- Settles O16: each query answers from the record it finds; `hiddenFrom` and `statusWords_eq` say what a lock and a state hide. -/
theorem queriesAnswerAtOnce : Obligations.QueriesAnswerAtOnce := by
  refine ⟨fun p tag s hs => ⟨fun key e hk hf => ?_, fun object selection o ho hf => ?_⟩, fun p tag s hs => ?_⟩
  · have hkey : e.key = keyOf key := findEdition_key hf
    refine ⟨fun hl => exec_accepted hs rfl rfl rfl ?_, fun hp hl => exec_accepted hs rfl rfl (by subst hp; rfl) ?_⟩
    · simp only [hk, hf, hiddenFrom_eq_false (k := e.key) (hkey ▸ hl), not_true_eq_false, if_false, Bool.false_eq_true]
      refine (answer_of_accepts hs rfl).trans ?_
      simp [doneRecord, listWords]
    · subst hp
      simp only [hk, hf, hiddenFrom_eq_true (k := e.key) (hkey ▸ hl), not_true_eq_false, if_false, if_true]
      exact refuse_of_accepts hs
  · have hno : ¬ 8191 < numberOf object := Nat.not_lt.mpr ho
    refine ⟨fun hl => exec_accepted hs rfl rfl rfl ?_, fun hp hl => exec_accepted hs rfl rfl (by subst hp; rfl) ?_⟩
    · simp only [hno, hf, hiddenFrom_eq_false hl, if_false, Bool.false_eq_true]
      exact answer_of_accepts hs rfl
    · subst hp
      simp only [hno, hf, hiddenFrom_eq_true hl, if_false, if_true]
      exact refuse_of_accepts hs
  · refine congrArg Host.Outcome.next ((submit_of_start hs).trans ?_)
    rw [readStatusRun, answerDone_of_place (canStart_hasPlace hs), statusWords_eq]

/-! ## Locks -/

/-- A new entry takes the lowest-numbered empty place (R72). -/
theorem addLock_eq_set {st : LockState} {l : List (Option LockEntry)} {i : Nat} (hi : l[i]? = some none)
    (hlow : ∀ j < i, l[j]? ≠ some none) : addLock k st l = l.set i (some ⟨k, st, .a⟩) := by
  induction l generalizing i with
  | nil => simp at hi
  | cons x rest ih =>
    cases i with
    | zero =>
      obtain rfl : x = none := by simpa using hi
      rfl
    | succ i =>
      cases x with
      | none => exact absurd rfl (hlow 0 (Nat.succ_pos i))
      | some f =>
        simp only [addLock, List.set_cons_succ]
        rw [ih (by simpa using hi) fun j hj => by simpa using hlow (j + 1) (Nat.succ_lt_succ hj)]

/-- Settles O18: the checks in their order, the entry placed by `addLock_eq_set`, and HELD or PENDING by `onEditionB`. -/
theorem lockEditionHeldOrPending : Obligations.LockEditionHeldOrPending := by
  intro tag key e s hs hk hf hc
  have hopen : ¬ e.state = .opened := by simp [hc]
  refine ⟨fun hl => exec_accepted hs rfl rfl rfl ?_, fun hl hfull => exec_accepted hs rfl rfl rfl ?_,
    fun i hl hi hlow => ⟨fun hb => exec_accepted hs rfl rfl rfl ?_, fun hb => exec_accepted hs rfl rfl rfl ?_⟩⟩
  · simp only [hk, hf, hopen, Option.isSome_iff_ne_none.mpr hl, not_true_eq_false, if_false, if_true]
    exact refuse_of_accepts hs
  · have hall : (s.locks.all fun l => l.isSome) = true := by
      simpa [Option.isSome_iff_ne_none] using hfull
    simp only [hk, hf, hopen, hl, hall, not_true_eq_false, if_false, if_true, Option.isSome_none, Bool.false_eq_true]
    exact refuse_of_accepts hs
  all_goals
    have hall : (s.locks.all fun l => l.isSome) = false := by
      simp only [List.all_eq_false]
      exact ⟨none, List.mem_of_getElem? hi, by simp⟩
    simp only [hk, hf, hopen, hl, hall, onEditionB, beq_iff_eq, hb, not_true_eq_false, if_false, if_true, Option.isSome_none,
      Bool.false_eq_true, addLock_eq_set hi hlow]
  · exact answer_of_accepts hs rfl
  · rfl

/-- A HELD lock released: what is left, and the revision of an edition written under it (R79). -/
theorem releaseHeld_effect (h : s.findEdition k = some e) :
    let t := releaseHeld k s
    let revision := if e.writtenUnderLock then min 65535 (e.revision + 1) else e.revision
    t = { s with locks := t.locks, editions := t.editions, dirty := t.dirty } ∧ lockOf t k = none ∧
      (∀ q, q ≠ k → lockOf t q = lockOf s q) ∧
      t.findEdition k = some { e with revision := revision, writtenUnderLock := false } ∧
      (∀ q, q ≠ k → t.findEdition q = s.findEdition q) ∧
      ∀ g, g ∈ t.dirty ↔ g ∈ s.dirty ∨ (e.writtenUnderLock = true ∧ g = 3 + e.position / 256) := by
  have hframe : releaseHeld k s = { s with locks := (releaseHeld k s).locks, editions := (releaseHeld k s).editions, dirty := (releaseHeld k s).dirty } := by
    rw [releaseHeld_frame]
  refine ⟨hframe, (lockOf_releaseHeld ..).trans (lockOf_removeLock_same k s),
    fun q hq => (lockOf_releaseHeld ..).trans (lockOf_removeLock_other s hq), ?_⟩
  cases hw : e.writtenUnderLock with
  | false =>
    have heq : releaseHeld k s = removeLock k s := by simp [releaseHeld, h, hw]
    rw [heq]
    have hsame : e = { e with writtenUnderLock := false } := by rw [← hw]
    refine ⟨h.trans (congrArg some ?_), fun _ _ => rfl, fun g => by simp⟩
    simpa using hsame
  | true =>
    have heq : releaseHeld k s = markDirty (editionGroup e.position) ((removeLock k s).modEdition k fun e =>
        { e with writtenUnderLock := false, revision := min 65535 (e.revision + 1) }) := by simp [releaseHeld, h, hw]
    rw [heq]
    refine ⟨findEdition_modEdition_same (s := removeLock k s) (fun _ => rfl) h,
      fun q hq => findEdition_modEdition_other (s := removeLock k s) (fun _ => rfl) hq, fun g => ?_⟩
    rw [mem_dirty_mark]
    simp [editionGroup]

/-- Settles O19: the removal and the revision by `releaseHeld_effect`. -/
theorem unlockEditionRaisesRevision : Obligations.UnlockEditionRaisesRevision := by
  intro tag key e s hs hk hf
  refine ⟨fun hl => exec_accepted hs rfl rfl rfl ?_, fun hl => ⟨_, exec_accepted hs rfl rfl rfl ?_, releaseHeld_effect hf⟩⟩
  · have hheld : heldLock s (keyOf key) = false := by simpa [heldLock] using hl
    simp only [hk, hf, hheld, not_true_eq_false, if_false, Bool.false_eq_true, not_false_eq_true, if_true]
    exact refuse_of_accepts hs
  · have hheld : heldLock s (keyOf key) = true := by simpa [heldLock] using hl
    obtain ⟨hframe, -, -, hrec, -, -⟩ := releaseHeld_effect hf
    simp only [hk, hf, hheld, not_true_eq_false, if_false, revisionWord, hrec]
    refine (answer_of_accepts hs (by rw [hframe]; rfl)).trans ?_
    have hflag : (e.writtenUnderLock && decide (e.revision < 65535)) =
        decide (e.revision < if e.writtenUnderLock then min 65535 (e.revision + 1) else e.revision) := by
      cases e.writtenUnderLock <;> simp
    rw [hflag]
    rfl

end Sys2Proof.Machine
end

section
/-!
PROOF. The arithmetic of samples and fees, and the commands on curve sets, scrubbing, accounts, the year, orders and charges:
O14, O23, O24, O25, O28, O29, O30, O31, O32, O33 and O35.
-/

namespace Sys2Proof.Machine

open Sys2Proof

variable {s t : State} {p : Port} {tag : Tag}

/-! ## Sample arithmetic -/

/-- The rounded share of a segment lies between nothing and the whole of it, in either direction. -/
theorem segmentShare_bounds {lo hi : Int} {r : Nat} (hr : r < 128) :
    min lo hi ≤ lo + ((hi - lo) * (r : Int) + 64) / 128 ∧ lo + ((hi - lo) * (r : Int) + 64) / 128 ≤ max lo hi := by
  have hr' : (r : Int) ≤ 127 := by omega
  rcases le_total lo hi with h | h
  · have h0 : 0 ≤ (hi - lo) * (r : Int) := mul_nonneg (by omega) (by omega)
    have h1 : (hi - lo) * (r : Int) ≤ (hi - lo) * 127 := mul_le_mul_of_nonneg_left hr' (by omega)
    omega
  · have h0 : 0 ≤ (lo - hi) * (r : Int) := mul_nonneg (by omega) (by omega)
    have h1 : (lo - hi) * (r : Int) ≤ (lo - hi) * 127 := mul_le_mul_of_nonneg_left hr' (by omega)
    have h2 : (hi - lo) * (r : Int) = -((lo - hi) * (r : Int)) := by ring
    omega

theorem addLift_le (c lift : Int) : addLift c lift ≤ 255 := by unfold addLift; omega

/-- Settles O23: the division by a positive number rounds toward minus infinity, and the share of a segment stays in it. -/
theorem sampleArithmetic : Obligations.SampleArithmetic := by
  refine ⟨fun knots v _ _ _ => ⟨?_, ?_⟩, fun _ _ => ⟨rfl, rfl⟩, fun set pol v => ?_⟩
  · rw [curveValue, Int.fdiv_eq_ediv_of_nonneg _ (by decide)]
    push_cast
    rfl
  · have h := segmentShare_bounds (lo := knots.getD (v / 128) 0) (hi := knots.getD (v / 128 + 1) 0) (Nat.mod_lt v (by decide : 0 < 128))
    push_cast
    exact h
  · cases pol <;> exact addLift_le _ _

/-! ## Fee arithmetic -/

/-- The band is the first whose bound is at least the age, or the last (R124). -/
theorem ageBand_spec {bounds : List Nat} {age : Nat} (h : bounds.length = 8) :
    ageBand bounds age ≤ 7 ∧ (ageBand bounds age < 7 → age ≤ bounds.getD (ageBand bounds age) 0) ∧
      ∀ i < ageBand bounds age, bounds.getD i 0 < age := by
  unfold ageBand
  cases hf : bounds.findIdx? fun u => decide (age ≤ u) with
  | none =>
    rw [List.findIdx?_eq_none_iff] at hf
    refine ⟨le_rfl, fun h7 => absurd h7 (lt_irrefl 7), fun i (hi : i < 7) => ?_⟩
    rw [List.getD_eq_getElem _ _ (by omega)]
    simpa using hf _ (List.getElem_mem (by omega : i < bounds.length))
  | some i =>
    obtain ⟨hlt, hi, hlow⟩ := List.findIdx?_eq_some_iff_getElem.mp hf
    refine ⟨by simp; omega, fun _ => ?_, fun j (hj : j < i) => ?_⟩
    · rw [Option.getD_some, List.getD_eq_getElem _ _ hlt]
      simpa using hi
    · rw [List.getD_eq_getElem _ _ (by omega)]
      simpa using hlow j hj

/-- An entry of a list within a bound. -/
theorem getD_bounded {l : List Nat} {P : Nat → Prop} {i d : Nat} (h : ∀ x ∈ l, P x) (hi : i < l.length) : P (l.getD i d) := by
  rw [List.getD_eq_getElem _ _ hi]
  exact h _ (List.getElem_mem hi)

theorem unitWithAge_le {base surcharge : Nat} (hb : base ≤ 999999) (hs : surcharge ≤ 300) : unitWithAge base surcharge ≤ 3999996 := by
  have h : base * (100 + surcharge) ≤ 999999 * 400 := Nat.mul_le_mul hb (by omega)
  unfold unitWithAge
  omega

theorem unitWithRights_le {unit multiplier : Nat} (hu : unit ≤ 3999996) (hm : multiplier ≤ 400) :
    unitWithRights unit multiplier ≤ 15999984 := by
  have h : unit * multiplier ≤ 3999996 * 400 := Nat.mul_le_mul hu hm
  unfold unitWithRights
  omega

/-- Settles O28, step by step of R124 and R125. -/
theorem quoteArithmetic : Obligations.QuoteArithmetic := by
  intro sch now year sc rc q hbound hbase hsur hrights hsc hrc hq1 hq hb hp hm
  have hband := ageBand_spec (age := orderAge now year) hbound
  obtain ⟨h7, hle, hlow⟩ := hband
  have hunit := unitWithAge_le (getD_bounded (P := (· ≤ 999999)) (i := sc) (d := 0) hb (by omega))
    (getD_bounded (P := (· ≤ 300)) (i := ageBand sch.bound (orderAge now year)) (d := 0) hp (by omega))
  have hmul := (getD_bounded (P := fun m => 25 ≤ m ∧ m ≤ 400) (i := rc) (d := 100) hm (by omega)).2
  have hdefault : sch.rights.getD rc 100 = sch.rights.getD rc 0 := by
    rw [List.getD_eq_getElem _ _ (by omega), List.getD_eq_getElem _ _ (by omega)]
  refine ⟨h7, hle, hlow, hunit, ?_, unitWithRights_le hunit hmul, fun h => ⟨?_, ?_⟩, fun h => ⟨?_, ?_⟩⟩
  · rw [← hdefault]; rfl
  · exact min_eq_left (le_of_lt h)
  · exact decide_eq_true h
  · exact min_eq_right h
  · exact decide_eq_false (Nat.not_lt.mpr h)

/-- R127 and R128 step by step: at most nine tenths of the gross are taken off, and the minimum is then applied. -/
theorem charge_steps (e : JournalEntry) (g : Grade) :
    let sum := discountSum e g
    let dt := if 90 < sum then 90 else sum
    let net1 := e.gross - e.gross * dt / 100
    (charge e g).discountClamped = decide (90 < sum) ∧ (charge e g).net = (if net1 < e.minimum then e.minimum else net1) ∧
      (charge e g).minApplied = decide (net1 < e.minimum) ∧ (e.gross + 9) / 10 ≤ net1 ∧ e.minimum ≤ (charge e g).net ∧
      (e.gross ≤ 99999999 → e.minimum ≤ 999999 → (charge e g).net ≤ 99999999) ∧
      (e.gross < (charge e g).net → (charge e g).minApplied = true) ∧
      (e.discount ≤ 50 → (charge e .full).discountClamped = false) := by
  have hdt : min 90 (discountSum e g) = if 90 < discountSum e g then 90 else discountSum e g := by split <;> omega
  have hpart : e.gross * min 90 (discountSum e g) ≤ e.gross * 90 := Nat.mul_le_mul_left _ (min_le_left _ _)
  have hnet : (charge e g).net = max e.minimum (e.gross - e.gross * min 90 (discountSum e g) / 100) := rfl
  have hmin : (charge e g).minApplied = decide (e.gross - e.gross * min 90 (discountSum e g) / 100 < e.minimum) := rfl
  dsimp only
  rw [← hdt, hnet, hmin]
  generalize e.gross * min 90 (discountSum e g) = part at *
  refine ⟨rfl, by split <;> omega, rfl, by omega, le_max_left _ _, fun _ _ => by omega, fun h => ?_, fun h => ?_⟩
  · exact decide_eq_true (by omega)
  · exact decide_eq_false (by simp only [discountSum]; omega)

/-- Settles O29: `charge_steps` for either grade. -/
theorem completionArithmetic : Obligations.CompletionArithmetic := by
  intro e g
  cases g with
  | full => exact charge_steps e .full
  | reduced => exact charge_steps e .reduced

/-! ## Curve sets -/

/-- Settles O24: in each command the checks pass, and the change of the set leaves the others where they stand. -/
theorem curveCommands : Obligations.CurveCommands := by
  intro tag set s hset
  have hset' : ¬ 7 < numberOf set := by omega
  refine ⟨fun polarity lift knots pol hs hpol hlen hk => exec_accepted hs rfl
      (show writeCurveStart .a tag set polarity knots lift s = writeCurveRun .a tag set polarity knots lift s from
        if_neg (not_not.mpr hlen)) rfl ?_,
    fun level hs hl => exec_accepted hs rfl rfl rfl ?_, fun p hs => exec_accepted hs rfl rfl (by cases p <;> rfl) ?_⟩
  · have hany : (knots.any fun k => decide (255 < numberOf k)) = false := by
      simpa using hk
    simp only [hpol, hset', hany, Bool.false_eq_true, or_self, if_false]
    cases pol <;> exact answer_of_accepts hs rfl
  · have hl' : ¬ 255 < numberOf level := by omega
    simp only [hset', hl', or_self, if_false]
    exact answer_of_accepts hs rfl
  · simp only [hset', if_false]
    refine (answer_of_accepts hs rfl).trans ?_
    simp [doneRecord, curveWords]

/-! ## Scrub commands -/

/-- Settles O25: the scrub mode and the count decide between the branches of the two commands; the expiry is an equation. -/
theorem scrubRequests : Obligations.ScrubRequests := by
  refine ⟨fun tag s hs => exec_accepted hs rfl rfl rfl ?_, fun tag count s hs => exec_accepted hs rfl rfl rfl ?_, fun s h => ?_⟩
  · cases hm : scrubMode s.strap with
    | timed => exact answer_of_accepts hs rfl
    | fallback =>
      simp only [reduceCtorEq, if_true, if_false]
      split
      · exact answer_of_accepts hs rfl
      · exact answer_of_accepts hs rfl
    | strobeOnly =>
      simp only [reduceCtorEq, if_false]
      split
      · exact answer_of_accepts hs rfl
      · exact answer_of_accepts hs rfl
  · split
    · exact refuse_of_accepts hs
    · split
      · exact refuse_of_accepts hs
      · exact answer_of_accepts hs rfl
  · rw [exec, execScrubTimerExpiry, if_pos h]

/-! ## The year and the schedule -/

/-- Settles O35: the checks of SET_YEAR in their order, and the answers of READ_SCHEDULE. -/
theorem setYearAndReadSchedule : Obligations.SetYearAndReadSchedule := by
  refine ⟨fun tag year s hs => ⟨fun hg => ?_, fun hg hy => ?_, fun hg hlo hhi => ⟨fun hb => ?_, fun hb => ?_⟩⟩,
    fun p tag s hs => exec_accepted hs rfl rfl (by cases p <;> rfl) (answer_of_accepts hs rfl)⟩
  all_goals refine exec_accepted hs rfl rfl rfl ?_
  · simp only [hg, Bool.false_eq_true, not_false_eq_true, if_true]
    exact refuse_of_accepts hs
  · simp only [hg, not_true_eq_false, if_false, hy, if_true]
    exact refuse_of_accepts hs
  · simp only [hg, not_true_eq_false, if_false, Nat.not_lt.mpr hlo, Nat.not_lt.mpr hhi, or_self, hb, if_true]
    exact refuse_of_accepts hs
  · simp only [hg, not_true_eq_false, if_false, Nat.not_lt.mpr hlo, Nat.not_lt.mpr hhi, or_self, hb, Bool.false_eq_true]
    rfl

/-! ## Accounts -/

/-- An account command from a state it is allowed in, with bank 0 in use, makes its change and waits for a billing flush. -/
theorem changeAccount_allowed {account : Word} {allowed : AccountState → Bool} {r : Account → Response} {f : Account → Account}
    (hn : numberOf account ≤ 63) (ha : allowed (s.account (numberOf account)).state = true) (hb : bankOffline s 0 = false) :
    changeAccount .b tag account allowed r f s =
      { s with
        accounts := s.accounts.set (numberOf account) (f (s.account (numberOf account))), billingPending := true
        portB := { s.portB with op := .flushWait (r (s.account (numberOf account))) .waiting } } := by
  simp only [changeAccount, Nat.not_lt.mpr hn, ha, hb, not_true_eq_false, if_false, Bool.false_eq_true]
  rfl

theorem changeAccount_state {account : Word} {allowed : AccountState → Bool} {r : Account → Response} {f : Account → Account}
    (h : Accepts .b s) (hn : numberOf account ≤ 63) (ha : allowed (s.account (numberOf account)).state = false) :
    changeAccount .b tag account allowed r f s = pushOut .b (refusedRecord tag .accountState []) s := by
  simp only [changeAccount, Nat.not_lt.mpr hn, ha, if_false, Bool.false_eq_true, not_false_eq_true, if_true]
  exact refuse_of_accepts h

theorem changeAccount_offline {account : Word} {allowed : AccountState → Bool} {r : Account → Response} {f : Account → Account}
    (h : Accepts .b s) (hn : numberOf account ≤ 63) (ha : allowed (s.account (numberOf account)).state = true)
    (hb : bankOffline s 0 = true) :
    changeAccount .b tag account allowed r f s = pushOut .b (refusedRecord tag .catalogueOffline []) s := by
  simp only [changeAccount, Nat.not_lt.mpr hn, ha, hb, not_true_eq_false, if_false, if_true]
  exact refuse_of_accepts h

/-- Settles O33: the states of each command by `changeAccount_allowed` and `changeAccount_state`. -/
theorem accountCommands : Obligations.AccountCommands := by
  intro tag account s hs hn
  refine ⟨fun ha hb => ?_, fun ha => ?_, fun ha hb => ?_, fun ha => ?_, fun ha hb => ?_, fun ha => ?_, fun ha hb => ?_, fun ha => ?_,
    fun d hd ha hb => ?_, fun d hd ha => ?_, fun d hd => ?_, fun hb => ?_, fun hb => ?_, ?_⟩
  all_goals refine exec_accepted hs rfl rfl rfl ?_
  · exact changeAccount_allowed hn (by simp [ha]) hb
  · exact changeAccount_state hs hn (by simp [ha])
  · exact changeAccount_allowed hn (by simp [ha]) hb
  · exact changeAccount_state hs hn (by simp [ha])
  · exact changeAccount_allowed hn (by simp [ha]) hb
  · exact changeAccount_state hs hn (by simp [ha])
  · exact changeAccount_allowed hn (by simp [ha]) hb
  · exact changeAccount_state hs hn (by simp [ha])
  · rw [if_neg (not_not.mpr hd)]
    exact changeAccount_allowed hn (by simp [ha]) hb
  · rw [if_neg (not_not.mpr hd)]
    exact changeAccount_state hs hn (by simp [ha])
  · rw [if_pos (by simp [hd])]
    exact refuse_of_accepts hs
  · exact changeAccount_allowed hn rfl hb
  · exact changeAccount_offline hs hn rfl hb
  · rw [if_neg (Nat.not_lt.mpr hn)]
    exact answer_of_accepts hs rfl

/-! ## Orders and charges -/

/-- ORDER_REPRINT on Port B in READY, of an object that exists and operands in range, comes to its checks on the edition. -/
theorem exec_orderReprint_of_start {object sizeClass rightsClass quantity account : Word} {w : State} (h : Accepts .b s)
    (hw : orderReprintRun .b tag object sizeClass rightsClass quantity account s = w) :
    exec (.orderReprint .b tag object sizeClass rightsClass quantity account) s = .next (settle w) := by
  rw [← hw]
  exact congrArg Host.Outcome.next (submit_of_start h.1)

/-- The checks of ORDER_REPRINT on the edition, the account, bank 0 and the journal, in their order (R139). -/
def orderChecked (tag : Tag) (o : ObjectRec) (e : EditionRec) (sizeClass rightsClass quantity account : Nat) (s : State) : State :=
  if e.state = .opened then refuse .b tag .wrongState s
  else if e.resale = .notForResale then refuse .b tag .notForResale s
  else if (lockOf s e.key).isSome then refuse .b tag .editionLocked s
  else if (s.account account).state ≠ .opened then refuse .b tag .accountState s
  else if bankOffline s 0 then refuse .b tag .catalogueOffline s
  else if 128 ≤ s.journal.length then refuse .b tag .journalFull s
  else acceptOrder .b tag o e (newEntry s o e sizeClass rightsClass quantity account) s

theorem orderReprintRun_checked {object sizeClass rightsClass quantity account : Word} {o : ObjectRec} {e : EditionRec}
    (hd : s.device = .ready) (hobj : numberOf object ≤ 8191) (ho : s.findObject (numberOf object) = some o)
    (hsc : numberOf sizeClass ≤ 7) (hrc : numberOf rightsClass ≤ 3) (hq1 : 1 ≤ numberOf quantity) (hq : numberOf quantity ≤ 999)
    (hacc : numberOf account ≤ 63) (he : s.findEdition o.key = some e) :
    orderReprintRun .b tag object sizeClass rightsClass quantity account s =
      orderChecked tag o e (numberOf sizeClass) (numberOf rightsClass) (numberOf quantity) (numberOf account) s := by
  have hrange : ¬ (7 < numberOf sizeClass ∨ 3 < numberOf rightsClass ∨ numberOf quantity < 1 ∨ 999 < numberOf quantity ∨
      63 < numberOf account) := by omega
  simp only [orderReprintRun, reduceCtorEq, if_false, hd, deviceRefusal, ho, Nat.not_lt.mpr hobj, hrange, he]
  rfl

/-- Settles O30: the last of the checks of `orderChecked`. -/
theorem orderReprintAccepted : Obligations.OrderReprintAccepted := by
  intro tag object sizeClass rightsClass quantity account o e s hs hobj ho hsc hrc hq1 hq hacc he hc hsale hl hacct hb hj
  have hkey : e.key = o.key := findEdition_key he
  refine ⟨orderRender tag o, exec_orderReprint_of_start hs
    ((orderReprintRun_checked hs.2 hobj ho hsc hrc hq1 hq hacc he).trans ?_), rfl, rfl, rfl, rfl, rfl, rfl, rfl, rfl, rfl⟩
  simp only [orderChecked, hc, hsale, hkey, hl, hacct, hb, Nat.not_le.mpr hj, reduceCtorEq, if_false, Option.isSome_none,
    Bool.false_eq_true, ne_eq, not_true_eq_false, newEntry]
  rfl

/-- Settles O32: the journal is empty, its oldest entry is not ready, or it is taken: the three branches of TAKE_CHARGE. -/
theorem takeChargeTakesOldest : Obligations.TakeChargeTakesOldest := by
  intro tag s hs
  refine ⟨fun h => exec_accepted hs rfl rfl rfl ?_, fun e rest hj hp =>
    ⟨fun hb => exec_accepted hs rfl rfl rfl ?_, fun hb => exec_accepted hs rfl rfl rfl ?_⟩⟩
  · rcases h with hj | ⟨e, rest, hj, hp⟩
    · simp only [hj]
      exact answer_of_accepts hs rfl
    · simp only [hj, hp, if_true]
      exact answer_of_accepts hs rfl
  · simp only [hj, hp, hb, if_true, if_false]
    exact refuse_of_accepts hs
  · simp only [hj, hp, hb, if_false, Bool.false_eq_true]
    rfl

/-- In a journal that holds one entry of a number, a change of that number's entries changes that one. -/
theorem journal_map_of_split {before after : List JournalEntry} {e f : JournalEntry} {n : BitVec 32}
    (hb : ∀ f ∈ before, f.sequence ≠ n) (ha : ∀ f ∈ after, f.sequence ≠ n) (he : e.sequence = n) :
    ((before ++ e :: after).map fun g => if g.sequence = n then f else g) = before ++ f :: after := by
  have hmap (l : List JournalEntry) (h : ∀ f ∈ l, f.sequence ≠ n) : (l.map fun g => if g.sequence = n then f else g) = l :=
    (List.map_congr_left fun g hg => if_neg (h g hg)).trans (List.map_id' l)
  rw [List.map_append, List.map_cons, hmap before hb, hmap after ha, if_pos he]

/-- Settles O31: the entry is found between those before and after it, and its account charged by `chargeAccount`. -/
theorem completionStepCharges : Obligations.CompletionStepCharges := by
  intro o e obj before after s hj hb ha he hobj _
  have hcharged (a : Account) (net : Nat) : chargeAccount a net = { a with
      tally := if a.tally + net ≤ 9999999999 then a.tally + net else 9999999999
      saturated := a.saturated || decide (9999999999 < a.tally + net)
      orders := if a.orders < 65535 then a.orders + 1 else 65535 } := by
    have ht : min tallyLimit (a.tally + net) = if a.tally + net ≤ 9999999999 then a.tally + net else 9999999999 := by
      unfold tallyLimit; split <;> omega
    have ho : min 65535 (a.orders + 1) = if a.orders < 65535 then a.orders + 1 else 65535 := by split <;> omega
    rw [chargeAccount, ht, ho]
    rfl
  simp only [completeOrder, findEntry_of_split hj hb he, hobj, hj, journal_map_of_split hb ha he, hcharged]
  rfl

end Sys2Proof.Machine
end

section
/-!
PROOF. The free pool and the catalogue's order: DEFINE_OBJECT, the refusals of DEFINE_OBJECT and ORDER_REPRINT, and LIST_EDITIONS:
O13, O14 and O17.
-/

namespace Sys2Proof.Assoc

variable {β : Type} {rank : β → Nat} {x : β} {l : List β}

theorem insertBy_perm (x : β) (l : List β) : (insertBy rank x l).Perm (x :: l) := by
  induction l with
  | nil => exact .refl _
  | cons y rest ih =>
    simp only [insertBy]
    split
    · exact .refl _
    · exact (List.Perm.cons y ih).trans (.swap x y rest)

theorem sortBy_perm (l : List β) : (sortBy rank l).Perm l := by
  induction l with
  | nil => exact .refl _
  | cons x rest ih => exact (insertBy_perm x _).trans (ih.cons x)

/-- An element goes into a sorted list at its place. -/
theorem insertBy_sorted (h : l.Pairwise fun a b => rank a ≤ rank b) : (insertBy rank x l).Pairwise fun a b => rank a ≤ rank b := by
  induction l with
  | nil => simp [insertBy]
  | cons y rest ih =>
    obtain ⟨hy, hrest⟩ := List.pairwise_cons.mp h
    simp only [insertBy]
    split
    · next hlt => exact List.pairwise_cons.mpr ⟨fun z hz => by
        rcases List.mem_cons.mp hz with rfl | hz
        · exact hlt.le
        · exact hlt.le.trans (hy z hz), h⟩
    · next hge => exact List.pairwise_cons.mpr ⟨fun z hz => by
        rcases mem_insertBy.mp hz with rfl | hz
        · exact Nat.not_lt.mp hge
        · exact hy z hz, ih hrest⟩

theorem sortBy_sorted (l : List β) : (sortBy rank l).Pairwise fun a b => rank a ≤ rank b := by
  induction l with
  | nil => exact .nil
  | cons x rest ih => exact insertBy_sorted ih

end Sys2Proof.Assoc

namespace Sys2Proof.Machine

open Sys2Proof

variable {s t : State} {p : Port} {tag : Tag}

/-! ## The object table -/

theorem findObject_number {n : Nat} {o : ObjectRec} (h : s.findObject n = some o) : o.number = n := by
  simpa using List.find?_some h

theorem findObject_mem {n : Nat} {o : ObjectRec} (h : s.findObject n = some o) : o ∈ s.objects := List.mem_of_find?_eq_some h

/-- A number is free when no object is found under it. -/
theorem findObject_eq_none_iff {n : Nat} : s.findObject n = none ↔ (s.objects.all fun o => o.number != n) = true := by
  simp [State.findObject]

theorem freeObjectNumber_eq {n : Nat} (h : n < 8192) (hfree : s.findObject n = none) (hlow : ∀ m < n, (s.findObject m).isSome) :
    freeObjectNumber s = some n := by
  rw [freeObjectNumber, List.find?_range_eq_some]
  refine ⟨findObject_eq_none_iff.mp hfree, by simpa using h, fun m hm => ?_⟩
  have hsome := hlow m hm
  by_contra hc
  rw [findObject_eq_none_iff.mpr (by simpa using hc)] at hsome
  simp at hsome

theorem freeObjectNumber_isSome (h : ∃ m < 8192, s.findObject m = none) : ∃ n, freeObjectNumber s = some n := by
  obtain ⟨m, hm, hfree⟩ := h
  rw [← Option.isSome_iff_exists, freeObjectNumber, List.find?_isSome]
  exact ⟨m, List.mem_range.mpr hm, findObject_eq_none_iff.mp hfree⟩

/-! ## The free pool -/

/-- The pool entries in banks that are not OFFLINE (R10). -/
def usable (s : State) (l : List Nat) : List Nat := l.filter fun n => !slotOffline s n

theorem length_usable (s : State) : (usable s s.pool).length = usableFree s := by rw [usable, usableFree, List.countP_eq_length_filter]

/-- The slot taken is the first usable one. -/
theorem takeUsable_eq {n : Nat} {rest : List Nat} : ∀ {l : List Nat}, usable s l = n :: rest → takeUsable s l = some (n, l.erase n)
  | [], h => by simp [usable] at h
  | m :: l, h => by
    by_cases hm : slotOffline s m = true
    · have hl : usable s l = n :: rest := by simpa [usable, hm] using h
      have hn : slotOffline s n = false := by
        have : n ∈ usable s l := by rw [hl]; exact List.mem_cons_self
        simpa using (List.mem_filter.mp this).2
      have hne : m ≠ n := by rintro rfl; simp [hm] at hn
      rw [takeUsable, if_pos hm, takeUsable_eq hl, List.erase_cons_tail (by simpa using hne)]
    · obtain ⟨rfl, -⟩ : m = n ∧ usable s l = rest := by simpa [usable, hm] using h
      rw [takeUsable, if_neg hm, List.erase_cons_head]

/-- The slots of an object are the first usable entries of the pool, in their order (R10). -/
theorem takeMany_eq {k : Nat} {l : List Nat} (hl : l.Nodup) (hk : k ≤ (usable s l).length) :
    takeMany s k l = some ((usable s l).take k, l.filter fun n => !((usable s l).take k).contains n) := by
  induction k generalizing l with
  | zero => simp [takeMany]
  | succ k ih =>
    obtain ⟨n, us, hu⟩ : ∃ n us, usable s l = n :: us := List.exists_cons_of_length_pos (by omega)
    have hn : n ∉ us := by
      have hnodup : (usable s l).Nodup := hl.filter _
      rw [hu] at hnodup
      exact (List.nodup_cons.mp hnodup).1
    have hrest : usable s (l.erase n) = us := by
      rw [usable, hl.erase_eq_filter, List.filter_comm, ← usable, hu]
      simpa using fun m hm => (ne_of_mem_of_not_mem hm hn)
    have ih' := ih (l := l.erase n) (hl.erase n) (by rw [hrest]; rw [hu] at hk; simpa using hk)
    rw [takeMany, takeUsable_eq hu]
    simp only [ih', hrest, hu, List.take_succ_cons]
    rw [hl.erase_eq_filter, List.filter_filter]
    congr 3
    funext m
    by_cases hmn : m = n <;> simp [hmn]

/-! ## Assigning slots -/

/-- The entry of a slot that a tile position takes (R10). -/
def tileEntry (e : SlotEntry) (object index : Nat) : SlotEntry :=
  { e with state := .assigned, owner := .tile object index, written := false }

theorem tileEntry_ne_default (e : SlotEntry) (object index n : Nat) : tileEntry e object index ≠ slotDefault n := by
  intro h
  have howner := congrArg SlotEntry.owner h
  by_cases hn : n < 512 <;> simp [tileEntry, slotDefault, hn] at howner

/-- Slots taken one after another, from tile `j` on: each has its tile's entry, and no other slot changes. -/
theorem assignFrom_effect {object : Nat} : ∀ {ns : List Nat} {j : Nat} {s : State}, ns.Nodup →
    let t := (ns.zipIdx j).foldl (fun s x => s.setSlot x.1 (tileEntry (s.slot x.1) object x.2)) s
    t = { s with slots := t.slots } ∧ (Assoc.wf slotDefault s.slots = true → Assoc.wf slotDefault t.slots = true) ∧
      (∀ i n, ns[i]? = some n → t.slot n = tileEntry (s.slot n) object (j + i)) ∧ ∀ n, n ∉ ns → t.slot n = s.slot n
  | [], j, s, _ => ⟨rfl, id, by simp, fun _ _ => rfl⟩
  | m :: ns, j, s, h => by
    obtain ⟨hm, hns⟩ := List.nodup_cons.mp h
    have ih := assignFrom_effect (object := object) (j := j + 1) (s := s.setSlot m (tileEntry (s.slot m) object j)) hns
    simp only [List.zipIdx_cons, List.foldl_cons]
    obtain ⟨hframe, hwf, hin, hout⟩ := ih
    refine ⟨hframe, fun hs => hwf (wf_setSlot s m _ hs), fun i n hi => ?_, fun n hn => ?_⟩
    · cases i with
      | zero =>
        obtain rfl : m = n := by simpa using hi
        rw [hout m hm, slot_setSlot_new s (tileEntry_ne_default _ _ _ _)]
        rfl
      | succ i =>
        have hi' : ns[i]? = some n := by simpa using hi
        have hne : n ≠ m := ne_of_mem_of_not_mem (List.mem_of_getElem? hi') hm
        rw [hin i n hi', slot_setSlot_other s _ hne]
        congr 1
        omega
    · rw [List.mem_cons, not_or] at hn
      rw [hout n hn.2, slot_setSlot_other s _ hn.1]

theorem assignSlots_effect {object : Nat} {ns : List Nat} {s : State} (h : ns.Nodup) :
    let t := assignSlots object ns s
    t = { s with slots := t.slots } ∧ (Assoc.wf slotDefault s.slots = true → Assoc.wf slotDefault t.slots = true) ∧
      (∀ i n, ns[i]? = some n → t.slot n = tileEntry (s.slot n) object i) ∧ ∀ n, n ∉ ns → t.slot n = s.slot n := by
  have hfrom := assignFrom_effect (object := object) (j := 0) (s := s) h
  simp only [Nat.zero_add] at hfrom
  exact hfrom

/-! ## DEFINE_OBJECT -/

/-- The checks of DEFINE_OBJECT on the edition and the pool, in their order, and its change (R32, R33). -/
def defineChecked (tag : Tag) (key : EditionKey) (k : ObjectKind) (pol : Polarity) (seq w h : Nat) (e : EditionRec) (s : State) : State :=
  if ¬ mayChange s e then refuse .a tag .notLocked s
  else match e.objects.find? fun r => r.kind == k && r.sequence == seq with
    | some r => refuseWith .a tag .badField [numberWord (r.number % 2 ^ 13)] s
    | none =>
      if 128 ≤ e.objects.length then refuse .a tag .tableFull s
      else match freeObjectNumber s with
        | none => refuse .a tag .tableFull s
        | some number =>
          if usableFree s < w * h + 16 then refuse .a tag .noSpace s
          else match takeMany s (w * h) s.pool with
            | none => refuse .a tag .noSpace s
            | some (ns, pool) =>
              answer .a (doneResponse tag (if k = .page ∧ pol = .negative then [.ignored] else [])
                [numberWord number, numberWord (ns.headD 0)]) (addObject (newObject number k key seq w h pol ns) ns pool s)

/-- DEFINE_OBJECT with operands in range, of an edition that exists, comes to its checks on the edition. -/
theorem exec_defineObject_checked {key kind sequence width height polarity : Word} {k : ObjectKind} {pol : Polarity} {e : EditionRec}
    (hs : Accepts .a s) (hkind : kindOf (numberOf kind) = some k) (hpol : polarityOf (numberOf polarity) = some pol)
    (hk : keyInRange (keyOf key) = true) (hs1 : 1 ≤ numberOf sequence) (hs2 : numberOf sequence ≤ 127) (hw1 : 1 ≤ numberOf width)
    (hw2 : numberOf width ≤ 16) (hh1 : 1 ≤ numberOf height) (hh2 : numberOf height ≤ 24) (he : s.findEdition (keyOf key) = some e)
    (ht : defineChecked tag (keyOf key) k pol (numberOf sequence) (numberOf width) (numberOf height) e s = t) :
    exec (.defineObject .a tag key kind sequence width height polarity) s = .next (settle t) := by
  refine exec_accepted hs rfl rfl rfl ?_
  have hrange : ¬ (¬ keyInRange (keyOf key) = true ∨ ¬ (1 ≤ numberOf sequence ∧ numberOf sequence ≤ 127) ∨
      ¬ (1 ≤ numberOf width ∧ numberOf width ≤ 16) ∨ ¬ (1 ≤ numberOf height ∧ numberOf height ≤ 24)) := by
    rintro (h | h | h | h)
    · exact h hk
    all_goals omega
  simp only [hkind, hpol, hrange, if_false, he]
  subst ht
  unfold defineChecked
  refine if_congr Iff.rfl rfl ?_
  cases e.objects.find? fun r => r.kind == k && r.sequence == numberOf sequence with
  | some r => rfl
  | none =>
    refine if_congr Iff.rfl rfl ?_
    cases freeObjectNumber s with
    | none => rfl
    | some n =>
      refine if_congr Iff.rfl rfl ?_
      cases takeMany s (numberOf width * numberOf height) s.pool <;> rfl

/-- No object of the list has this kind and sequence. -/
theorem find?_ref_none {l : List ObjectRef} {k : ObjectKind} {seq : Nat} (h : ∀ r ∈ l, ¬ (r.kind = k ∧ r.sequence = seq)) :
    (l.find? fun r => r.kind == k && r.sequence == seq) = none := by
  simpa using h

theorem find?_ref_split {before after : List ObjectRef} {r : ObjectRef} {k : ObjectKind} {seq : Nat}
    (hb : ∀ q ∈ before, ¬ (q.kind = k ∧ q.sequence = seq)) (hk : r.kind = k) (hs : r.sequence = seq) :
    ((before ++ r :: after).find? fun r => r.kind == k && r.sequence == seq) = some r := by
  rw [List.find?_append, find?_ref_none hb]
  simp [hk, hs]

/-- The number of impaired tiles of a new object: its slots lie in banks that are not OFFLINE, and keep their damage marks. -/
theorem impairedTiles_new {o : ObjectRec} {ns : List Nat} (hmap : o.tileMap = ns.map fun n => ⟨n, false⟩)
    (hon : ∀ n ∈ ns, slotOffline t n = false) (hdamage : ∀ n ∈ ns, (t.slot n).damage = (s.slot n).damage) :
    impairedTiles t o = ns.countP fun n => (s.slot n).damage := by
  rw [impairedTiles, hmap, List.countP_map]
  exact List.countP_congr fun n hn => by simp [slotImpaired, hon n hn, hdamage n hn]

/-- The changes of DEFINE_OBJECT (R33), of a number that is free, with slots that are taken once. -/
theorem addObject_effect {o : ObjectRec} {ns pool : List Nat} {e : EditionRec} (hns : ns.Nodup)
    (hmap : o.tileMap = ns.map fun n => ⟨n, false⟩) (hon : ∀ n ∈ ns, slotOffline s n = false) (hfree : s.findObject o.number = none)
    (he : s.findEdition o.key = some e) :
    let t := addObject o ns pool s
    t = { s with objects := t.objects, editions := t.editions, slots := t.slots, pool := pool, dirty := t.dirty } ∧
      t.findObject o.number = some { o with impairedCount := ns.countP fun n => (s.slot n).damage } ∧
      (∀ m, m ≠ o.number → t.findObject m = s.findObject m) ∧
      (∀ i n, ns[i]? = some n → t.slot n = tileEntry (s.slot n) o.number i) ∧ (∀ n, n ∉ ns → t.slot n = s.slot n) ∧
      t.findEdition o.key = some { e with
        objects := Assoc.insertBy refRank ⟨o.number, o.kind, o.sequence⟩ e.objects
        writtenUnderLock := e.writtenUnderLock || e.state == .closed } ∧
      (∀ q, q ≠ o.key → t.findEdition q = s.findEdition q) ∧ ∀ g, g ∈ t.dirty ↔ g ∈ s.dirty ∨ g = 11 + o.number / 32 := by
  obtain ⟨hframe, -, hin, hout⟩ := assignSlots_effect (object := o.number) (s := { s with pool := pool }) hns
  have himpaired : impairedTiles (assignSlots o.number ns { s with pool := pool }) o = ns.countP fun n => (s.slot n).damage := by
    refine impairedTiles_new hmap (fun n hn => ?_) fun n hn => ?_
    · rw [hframe]; exact hon n hn
    · obtain ⟨i, hi⟩ := List.getElem?_of_mem hn
      rw [hin i n hi]; rfl
  rw [addObject]
  simp only [himpaired]
  generalize assignSlots o.number ns { s with pool := pool } = u at *
  have hobjects : u.objects = s.objects := by rw [hframe]
  have heditions : u.editions = s.editions := by rw [hframe]
  refine ⟨by rw [hframe]; rfl, ?_, fun m hm => ?_, hin, hout, ?_, fun q hq => ?_, fun g => ?_⟩
  · refine Assoc.find?_insertBy_of_none (by simp) ?_
    rw [hobjects]; exact hfree
  · refine (Assoc.find?_insertBy_of_not (by simpa using Ne.symm hm)).trans ?_
    rw [hobjects]; rfl
  · refine findEdition_modEdition_same (s := { u with objects := _ }) (k := o.key) (e := e) (fun _ => rfl) ?_
    rw [← he, State.findEdition, State.findEdition, heditions]
  · refine (findEdition_modEdition_other (s := { u with objects := _ }) ?_ hq).trans ?_
    · exact fun _ => rfl
    · rw [State.findEdition, State.findEdition, heditions]
  · rw [mem_dirty_mark, hframe]; rfl

/-- Settles O13: the slots by `takeMany_eq`, the changes by `addObject_effect`. -/
theorem defineObjectAllocatesSlots : Obligations.DefineObjectAllocatesSlots := by
  intro tag key kind sequence width height polarity k pol e number s hs hkind hpol hk hs1 hs2 hw1 hw2 hh1 hh2 he hmay hnew hlen hn hfree
    hlow huse hpool
  have hcount : numberOf width * numberOf height ≤ (usable s s.pool).length := by rw [length_usable]; omega
  have hns : ((usable s s.pool).take (numberOf width * numberOf height)).Nodup :=
    (hpool.filter _).sublist (List.take_sublist _ _)
  have hon : ∀ n ∈ (usable s s.pool).take (numberOf width * numberOf height), slotOffline s n = false := fun n hn => by
    simpa using (List.mem_filter.mp (List.mem_of_mem_take hn)).2
  obtain ⟨hframe, hobj, hobjs, hin, hout, hed, heds, hdirty⟩ := addObject_effect
    (o := newObject number k (keyOf key) (numberOf sequence) (numberOf width) (numberOf height) pol
      ((usable s s.pool).take (numberOf width * numberOf height)))
    (pool := s.pool.filter fun n => !((usable s s.pool).take (numberOf width * numberOf height)).contains n) hns rfl hon hfree he
  refine ⟨_, exec_defineObject_checked hs hkind hpol hk hs1 hs2 hw1 hw2 hh1 hh2 he ?_, ?_, ?_, hobj.trans ?_, hobjs, hin, hout, hed,
    heds, hdirty⟩
  · have hmay' : mayChange s e = true := (mayChange_iff (findEdition_key he)).mpr hmay
    simp only [defineChecked, hmay', not_true_eq_false, if_false, find?_ref_none hnew, Nat.not_le.mpr hlen,
      freeObjectNumber_eq hn hfree hlow, Nat.not_lt.mpr huse, takeMany_eq hpool hcount]
    exact answer_of_accepts hs (by rw [hframe]; rfl)
  · rw [hframe]
  · rw [hframe]; rfl
  · cases k <;> rfl

/-- Settles O14: each check of `defineChecked` and of `orderChecked` in its turn. -/
theorem defineAndOrderRefusals : Obligations.DefineAndOrderRefusals := by
  refine ⟨fun tag key kind sequence width height polarity k pol e s hs hkind hpol hk hs1 hs2 hw1 hw2 hh1 hh2 he =>
    ⟨fun hc hl => ?_, fun hmay => ?_⟩, fun tag object sizeClass rightsClass quantity account o e s hs hobj hsc hrc hq1 hq hacc he => ?_⟩
  · refine exec_defineObject_checked hs hkind hpol hk hs1 hs2 hw1 hw2 hh1 hh2 he ?_
    rw [defineChecked, if_pos (not_mayChange (findEdition_key he) hc hl)]
    exact refuse_of_accepts hs
  · have hmay' : mayChange s e = true := (mayChange_iff (findEdition_key he)).mpr hmay
    refine ⟨fun before after r hsplit hb hrk hrs => ?_, fun hnew => ⟨fun hfull => ?_, fun hlen hfree huse => ?_⟩⟩
    all_goals
      refine exec_defineObject_checked hs hkind hpol hk hs1 hs2 hw1 hw2 hh1 hh2 he ?_
      rw [defineChecked, if_neg (not_not.mpr hmay')]
    · rw [hsplit, find?_ref_split hb hrk hrs]
      exact refuseWith_of_accepts hs
    · rw [find?_ref_none hnew]
      simp only [hfull, if_true]
      exact refuse_of_accepts hs
    · obtain ⟨n, hn⟩ := freeObjectNumber_isSome hfree
      rw [find?_ref_none hnew]
      simp only [Nat.not_le.mpr hlen, if_false, hn, huse, if_true]
      exact refuse_of_accepts hs
  · have hkey : e.key = o.key := findEdition_key he
    have checked (hf : s.findObject (numberOf object) = some o) {c : Cause}
        (hw : orderChecked tag o e (numberOf sizeClass) (numberOf rightsClass) (numberOf quantity) (numberOf account) s =
          refuse .b tag c s) : exec (.orderReprint .b tag object sizeClass rightsClass quantity account) s =
            .next (settle (pushOut .b (refusedRecord tag c []) s)) :=
      exec_orderReprint_of_start hs ((orderReprintRun_checked hs.2 hobj hf hsc hrc hq1 hq hacc he).trans
        (hw.trans (refuse_of_accepts hs)))
    refine ⟨fun hf => exec_orderReprint_of_start hs ?_, fun hf => ⟨fun ho => checked hf ?_, fun hc hsale => checked hf ?_, fun hc hsale =>
      ⟨fun hl => checked hf ?_, fun hl => ⟨fun ha => checked hf ?_, fun ha => ⟨fun hb => checked hf ?_, fun hb hj => checked hf ?_⟩⟩⟩⟩⟩
    · simp only [orderReprintRun, reduceCtorEq, if_false, hs.2, deviceRefusal, hf]
      exact refuse_of_accepts hs
    · simp [orderChecked, ho]
    · simp [orderChecked, hc, hsale]
    · simp [orderChecked, hc, hsale, hkey, Option.isSome_iff_ne_none.mpr hl]
    · simp [orderChecked, hc, hsale, hkey, hl, ha]
    · simp [orderChecked, hc, hsale, hkey, hl, ha, hb]
    · simp [orderChecked, hc, hsale, hkey, hl, ha, hb, hj]

/-! ## LIST_EDITIONS -/

/-- Keys in range with the same rank are the same key (R26). -/
theorem keyRank_inj {k q : EditionKey} (hk : keyInRange k = true) (hq : keyInRange q = true) (h : keyRank k = keyRank q) : k = q := by
  simp only [keyInRange, Bool.and_eq_true, decide_eq_true_eq] at hk hq
  unfold keyRank at h
  cases k
  cases q
  simp only [EditionKey.mk.injEq]
  simp only at h hk hq
  omega

/-- The editions from a key on, each once, rising strictly. -/
theorem editionsFrom_sorted (k : EditionKey) (hr : ∀ e ∈ s.editions, keyInRange e.key = true) (hn : (s.editions.map (·.key)).Nodup) :
    (editionsFrom s k).Pairwise fun a b => keyRank a.key < keyRank b.key := by
  have hperm := Assoc.sortBy_perm (rank := fun e : EditionRec => keyRank e.key) s.editions
  have hkeys : (Assoc.sortBy (fun e : EditionRec => keyRank e.key) s.editions).Pairwise fun a b => a.key ≠ b.key :=
    List.pairwise_map.mp ((hperm.map fun e : EditionRec => e.key).nodup_iff.mpr hn)
  refine List.Pairwise.filter _ (((Assoc.sortBy_sorted s.editions).and hkeys).imp_of_mem fun {a b} ha hb h => ?_)
  exact lt_of_le_of_ne h.1 fun heq =>
    h.2 (keyRank_inj (hr a (Assoc.mem_sortBy.mp ha)) (hr b (Assoc.mem_sortBy.mp hb)) heq)

theorem length_editionsFrom (k : EditionKey) :
    (editionsFrom s k).length = s.editions.countP fun e => decide (keyRank k ≤ keyRank e.key) := by
  rw [editionsFrom, ← List.countP_eq_length_filter]
  exact (Assoc.sortBy_perm s.editions).countP_eq _

theorem mem_editionsFrom {k : EditionKey} {e : EditionRec} : e ∈ editionsFrom s k ↔ e ∈ s.editions ∧ keyRank k ≤ keyRank e.key := by
  simp [editionsFrom, Assoc.mem_sortBy]

/-- Settles O17: the first 32 of the editions from the start key on, which rise strictly. -/
theorem listEditionsInKeyOrder : Obligations.ListEditionsInKeyOrder := by
  intro p tag start s hs hk hr hn
  have hsorted := editionsFrom_sorted (keyOf start) hr hn
  refine ⟨(editionsFrom s (keyOf start)).take 32, exec_accepted hs rfl rfl (by cases p <;> rfl) ?_, ?_, fun e he => ?_, ?_, fun e he hle hnot f hf => ?_⟩
  · simp only [hk, not_true_eq_false, if_false, length_editionsFrom]
    refine (answer_of_accepts hs rfl).trans ?_
    simp only [doneRecord, listWords, List.length_map, List.singleton_append]
    rfl
  · rw [List.length_take, length_editionsFrom]
  · exact mem_editionsFrom.mp (List.mem_of_mem_take he)
  · exact hsorted.sublist (List.take_sublist _ _)
  · have hdrop : e ∈ (editionsFrom s (keyOf start)).drop 32 := by
      have hmem := mem_editionsFrom.mpr ⟨he, hle⟩
      rw [← List.take_append_drop 32 (editionsFrom s (keyOf start)), List.mem_append] at hmem
      exact hmem.resolve_left hnot
    rw [← List.take_append_drop 32 (editionsFrom s (keyOf start)), List.pairwise_append] at hsorted
    exact hsorted.2.2 f hf e hdrop

end Sys2Proof.Machine
end

section
/-!
PROOF. RENDER: its start, its output samples, and the packing of BAND_EMIT: O22.
-/

namespace Sys2Proof.Machine

open Sys2Proof

variable {s t : State} {p : Port} {tag : Tag} {c : RenderCtx} {o : ObjectRec} {set : CurveSet}

/-! ## The start of a render -/

/-- The first tile-row of a window holds output rows. -/
theorem renderStart_band (x0 x1 y0 y1 scale : Nat) (notes : List Note) :
    (renderStart tag o x0 x1 y0 y1 scale notes).band = y0 / 128 := by
  have hrow : ¬ y0 / 128 * 128 + 127 < y0 := by omega
  have hpos : 0 < min (outputSpan y0 y1 scale) ((y0 / 128 * 128 + 127 - y0) / scale + 1) * outputSpan x0 x1 scale :=
    Nat.mul_pos (lt_min (Nat.succ_pos _) (Nat.succ_pos _)) (Nat.succ_pos _)
  simp [renderStart, RenderCtx.nextBand, RenderCtx.bandEnd, hrow, hpos]

theorem scaled_mem_renderNotes {scale curve : Nat} : Note.scaled ∈ renderNotes p scale curve ↔ p = .b ∧ scale ≠ 4 := by
  cases p <;> by_cases hs : scale = 4 <;> by_cases hc : curve = 8 <;> simp [renderNotes, hs, hc]

theorem ignored_mem_renderNotes {scale curve : Nat} : Note.ignored ∈ renderNotes p scale curve ↔ p = .b ∧ curve ≠ 8 := by
  cases p <;> by_cases hs : scale = 4 <;> by_cases hc : curve = 8 <;> simp [renderNotes, hs, hc]

theorem effectiveScale_eq (p : Port) (scale : Nat) : effectiveScale p scale = if p = .b then 4 else scale := by cases p <;> rfl

theorem chosenSet_eq (p : Port) (curve era : Nat) : chosenSet p curve era = if p = .a ∧ curve ≠ 8 then curve else era := by
  cases p
  · by_cases h : curve = 8 <;> simp [chosenSet, h]
  · simp [chosenSet]

theorem windowFits_iff {x0 x1 y0 y1 : Nat} :
    windowFits o x0 x1 y0 y1 = true ↔ x0 ≤ x1 ∧ x1 < o.width * 128 ∧ y0 ≤ y1 ∧ y1 < o.height * 128 := by
  simp [windowFits, and_assoc]

/-- RENDER with its checks passed starts (R100, R101). -/
theorem exec_render_accepted {object x0 x1 y0 y1 scale curve : Word} {e : EditionRec} (hs : Accepts p s)
    (hobj : numberOf object ≤ 8191) (hsc : numberOf scale ∈ [1, 2, 4]) (hcv : p = .a → numberOf curve ≤ 8)
    (ho : s.findObject (numberOf object) = some o) (he : s.findEdition o.key = some e)
    (hfit : windowFits o (numberOf x0) (numberOf x1) (numberOf y0) (numberOf y1) = true)
    (hb : p = .b → e.state = .closed ∧ lockOf s o.key = none) :
    exec (.render p tag object x0 x1 y0 y1 scale curve) s = .next (settle (startRender p (chosenSet p (numberOf curve) e.era)
      (.render (renderStart tag o (numberOf x0) (numberOf x1) (numberOf y0) (numberOf y1) (effectiveScale p (numberOf scale))
        (renderNotes p (numberOf scale) (numberOf curve)))) s)) := by
  refine exec_accepted hs rfl rfl (by cases p <;> rfl) ?_
  have hfield : ¬ (8191 < numberOf object ∨ numberOf scale ∉ [1, 2, 4] ∨ (p = .a ∧ 8 < numberOf curve)) := by
    rintro (h | h | ⟨hp, h⟩)
    · omega
    · exact h hsc
    · exact absurd (hcv hp) (by omega)
  have hopen : ¬ (p = .b ∧ e.state = .opened) := fun ⟨hp, h⟩ => by simp [(hb hp).1] at h
  have hhidden : hiddenFrom s p e.key = false := hiddenFrom_eq_false (by
    cases p with
    | a => exact .inl rfl
    | b => exact .inr ((findEdition_key he).symm ▸ (hb rfl).2))
  simp only [hfield, if_false, ho, hfit, not_true_eq_false, he, hopen, hhidden, Bool.false_eq_true]

/-! ## Output samples -/

theorem outputSample_eq {i j : Nat} (hi : i < c.width) : c.outputSample o set (j * c.width + i) =
    match (c.classes.find? fun t => t.1 == (c.y0 + j * c.scale) / 128 * o.width + (c.x0 + i * c.scale) / 128) with
    | some (_, .computed samples) =>
      restoreSample set c.polarity (tileGet samples ((c.y0 + j * c.scale) % 128 * 128 + (c.x0 + i * c.scale) % 128))
    | _ => set.fill := by
  have hcol : (j * c.width + i) % c.width = i := by rw [Nat.mul_add_mod', Nat.mod_eq_of_lt hi]
  have hrow : (j * c.width + i) / c.width = j := by
    rw [Nat.mul_comm, Nat.mul_add_div (by omega), Nat.div_eq_of_lt hi, Nat.add_zero]
  rw [RenderCtx.outputSample, hcol, hrow] <;> rfl

/-! ## Packing -/

/-- Byte `j` of a word. -/
def byteOf (w : Word) (j : Nat) : BitVec 8 := w.extractLsb' (8 * j) 8

/-- Word `i` of a render's output: of the record being built, and after it the word being built (R108). -/
def RenderCtx.outWordAt (c : RenderCtx) (i : Nat) : Word := (c.record ++ [c.building]).getD i 0

/-- Byte `k` of a render's output. -/
def RenderCtx.outByte (c : RenderCtx) (k : Nat) : BitVec 8 := byteOf (c.outWordAt (k / 4)) (k % 4)

/-- The number of bytes packed. -/
def RenderCtx.packed (c : RenderCtx) : Nat := 4 * c.record.length + c.packPhase

/-- The word being built is empty from its phase on. -/
def RenderCtx.Clear (c : RenderCtx) : Prop := c.packPhase < 4 ∧ ∀ j, c.packPhase ≤ j → j < 4 → byteOf c.building j = 0

/-- A byte placed in a word leaves the other bytes. -/
theorem byteOf_placed_other {w : Word} {v i j : Nat} (hi : i < 4) (hj : j < 4) (h : j ≠ i) :
    byteOf (w ||| (BitVec.ofNat 32 (v % 256) <<< (8 * i))) j = byteOf w j := by
  apply BitVec.eq_of_getLsbD_eq
  intro k hk
  have hbit : (decide (8 * j + k < 32) && !decide (8 * j + k < 8 * i) && (BitVec.ofNat 32 (v % 256)).getLsbD (8 * j + k - 8 * i)) = false := by
    rcases Nat.lt_or_gt_of_ne h with hlt | hgt
    · simp [show 8 * j + k < 8 * i by omega]
    · have hbig : v % 256 < 2 ^ (8 * j + k - 8 * i) :=
        lt_of_lt_of_le (Nat.mod_lt v (by decide : 0 < 256)) (Nat.pow_le_pow_right (by decide : 0 < 2) (by omega : 8 ≤ 8 * j + k - 8 * i))
      simp [BitVec.getLsbD_ofNat, Nat.testBit_lt_two_pow hbig]
  simp only [byteOf, BitVec.getLsbD_extractLsb', BitVec.getLsbD_or, BitVec.getLsbD_shiftLeft, hbit, Bool.or_false]

theorem byteOf_placed_same {w : Word} {v i : Nat} (hi : i < 4) (h : byteOf w i = 0) :
    byteOf (w ||| (BitVec.ofNat 32 (v % 256) <<< (8 * i))) i = BitVec.ofNat 8 v := by
  apply BitVec.eq_of_getLsbD_eq
  intro k hk
  have hw : w.getLsbD (8 * i + k) = false := by
    have hbit := congrArg (fun b : BitVec 8 => b.getLsbD k) h
    simpa [byteOf, hk] using hbit
  have hv : (v % 256).testBit k = v.testBit k := by
    rw [show 256 = 2 ^ 8 from rfl, Nat.testBit_mod_two_pow]
    simp [hk]
  simp only [byteOf, BitVec.getLsbD_extractLsb', BitVec.getLsbD_or, BitVec.getLsbD_shiftLeft, hw, hk, decide_true, Bool.true_and,
    Bool.false_or, show 8 * i + k < 32 by omega, show ¬ 8 * i + k < 8 * i by omega, decide_false, Bool.not_false,
    Nat.add_sub_cancel_left, BitVec.getLsbD_ofNat, hv, show k < 32 by omega]

theorem packSample_frame (v : Nat) : c.packSample v =
    { c with cursor := c.cursor + 1, packPhase := (c.packSample v).packPhase, building := (c.packSample v).building
             record := (c.packSample v).record } := by
  unfold RenderCtx.packSample
  dsimp only
  split <;> rfl

theorem outWordAt_lt {i : Nat} (h : i < c.record.length) : c.outWordAt i = c.record.getD i 0 := by
  rw [RenderCtx.outWordAt, List.getD_eq_getElem _ _ (by simp; omega), List.getD_eq_getElem _ _ h, List.getElem_append_left h]

theorem outWordAt_building : c.outWordAt c.record.length = c.building := by
  simp [RenderCtx.outWordAt]

/-- One sample packed: the bytes before it stay, and its byte is its value (R108). -/
theorem packSample_effect (v : Nat) (h : c.Clear) :
    let t := c.packSample v
    t.packed = c.packed + 1 ∧ t.Clear ∧ (∀ k < c.packed, t.outByte k = c.outByte k) ∧ t.outByte c.packed = BitVec.ofNat 8 v ∧
      c.record <+: t.record := by
  obtain ⟨hphase, hzero⟩ := h
  have hdiv (k : Nat) (hk : k < c.packed) : k / 4 < c.record.length ∨ (k / 4 = c.record.length ∧ k % 4 < c.packPhase) := by
    unfold RenderCtx.packed at hk; omega
  have hpos : c.packed / 4 = c.record.length ∧ c.packed % 4 = c.packPhase := by unfold RenderCtx.packed; omega
  have hword (k : Nat) (hk : k < c.packed) (w : RenderCtx) (hlow : ∀ i < c.record.length, w.outWordAt i = c.outWordAt i)
      (hb : w.outWordAt c.record.length = c.building ||| (BitVec.ofNat 32 (v % 256) <<< (8 * c.packPhase))) :
      w.outByte k = c.outByte k := by
    rcases hdiv k hk with hlt | ⟨heq, hph⟩
    · rw [RenderCtx.outByte, hlow _ hlt]; rfl
    · rw [RenderCtx.outByte, RenderCtx.outByte, heq, hb, outWordAt_building, byteOf_placed_other hphase (by omega) (by omega)]
  have hnew (w : RenderCtx) (hb : w.outWordAt c.record.length = c.building ||| (BitVec.ofNat 32 (v % 256) <<< (8 * c.packPhase))) :
      w.outByte c.packed = BitVec.ofNat 8 v := by
    rw [RenderCtx.outByte, hpos.1, hpos.2, hb, byteOf_placed_same hphase (hzero _ le_rfl hphase)]
  unfold RenderCtx.packSample
  dsimp only
  split
  · next h3 =>
    generalize hu : ({ c with cursor := _, packPhase := _, building := _, record := _ } : RenderCtx) = u
    have hrec : u.record = c.record ++ [c.building ||| (BitVec.ofNat 32 (v % 256) <<< (8 * c.packPhase))] := by rw [← hu]
    have hbuild : u.building = 0 := by rw [← hu]
    have hph : u.packPhase = 0 := by rw [← hu]
    have hlow (i : Nat) (hi : i < c.record.length) : u.outWordAt i = c.outWordAt i := by
      rw [outWordAt_lt (by rw [hrec]; simp; omega), outWordAt_lt hi, hrec,
        List.getD_eq_getElem _ _ (by simp; omega), List.getD_eq_getElem _ _ hi, List.getElem_append_left hi]
    have hb : u.outWordAt c.record.length = c.building ||| (BitVec.ofNat 32 (v % 256) <<< (8 * c.packPhase)) := by
      rw [outWordAt_lt (by rw [hrec]; simp), hrec]; simp
    refine ⟨?_, ⟨by omega, fun j _ _ => ?_⟩, fun k hk => hword k hk u hlow hb, hnew u hb, ?_⟩
    · simp only [RenderCtx.packed, hrec, hph, List.length_append, List.length_singleton]; omega
    · rw [hbuild]; simp [byteOf]
    · rw [hrec]; exact List.prefix_append _ _
  · next h3 =>
    generalize hu : ({ c with cursor := _, packPhase := _, building := _ } : RenderCtx) = u
    have hrec : u.record = c.record := by rw [← hu]
    have hbuild : u.building = c.building ||| (BitVec.ofNat 32 (v % 256) <<< (8 * c.packPhase)) := by rw [← hu]
    have hph : u.packPhase = c.packPhase + 1 := by rw [← hu]
    have hlow (i : Nat) (hi : i < c.record.length) : u.outWordAt i = c.outWordAt i := by
      rw [outWordAt_lt (by rw [hrec]; exact hi), outWordAt_lt hi, hrec]
    have hb : u.outWordAt c.record.length = c.building ||| (BitVec.ofNat 32 (v % 256) <<< (8 * c.packPhase)) := by
      rw [← hbuild, ← hrec, outWordAt_building]
    refine ⟨?_, ⟨by omega, fun j hj hj4 => ?_⟩, fun k hk => hword k hk u hlow hb, hnew u hb, by rw [hrec]⟩
    · simp only [RenderCtx.packed, hrec, hph]; omega
    · rw [hbuild, byteOf_placed_other hphase hj4 (by omega)]
      exact hzero j (by omega) hj4

/-- An output sample looks at the render's window, classes and geometry alone. -/
theorem outputSample_packSample (v i : Nat) : (c.packSample v).outputSample o set i = c.outputSample o set i := by
  rw [packSample_frame]; rfl

/-- `n` samples packed one after another. -/
theorem packMany_effect (n : Nat) : ∀ {c : RenderCtx}, c.Clear →
    let t := RenderCtx.packMany o set n c
    t = { c with cursor := c.cursor + n, packPhase := t.packPhase, building := t.building, record := t.record } ∧
      t.packed = c.packed + n ∧ t.Clear ∧ (∀ k < c.packed, t.outByte k = c.outByte k) ∧
      (∀ i < n, t.outByte (c.packed + i) = BitVec.ofNat 8 (c.outputSample o set (c.cursor + i))) ∧ c.record <+: t.record := by
  induction n with
  | zero => exact fun h => ⟨rfl, rfl, h, fun _ _ => rfl, fun i hi => absurd hi (Nat.not_lt_zero i), List.prefix_rfl⟩
  | succ n ih =>
    intro c h
    obtain ⟨hpacked, hclear, hold, hnew, hpre⟩ := packSample_effect (c.outputSample o set c.cursor) h
    obtain ⟨iframe, ipacked, iclear, iold, inew, ipre⟩ := ih hclear
    have hcursor : (c.packSample (c.outputSample o set c.cursor)).cursor = c.cursor + 1 := by rw [packSample_frame]
    refine ⟨?_, by rw [RenderCtx.packMany, ipacked, hpacked]; omega, iclear, fun k hk => ?_, fun i hi => ?_, hpre.trans ipre⟩
    · rw [RenderCtx.packMany, iframe, hcursor, packSample_frame]
      simp only [RenderCtx.mk.injEq, true_and, and_true]
      omega
    · rw [RenderCtx.packMany, iold k (by omega), hold k hk]
    · cases i with
      | zero => rw [RenderCtx.packMany, Nat.add_zero, iold _ (by omega), hnew, Nat.add_zero]
      | succ i =>
        have hi' := inew i (by omega)
        rw [hpacked, hcursor, outputSample_packSample] at hi'
        rw [RenderCtx.packMany, show c.packed + (i + 1) = c.packed + 1 + i by omega, hi',
          show c.cursor + (i + 1) = c.cursor + 1 + i by omega]

/-- Closing the last word leaves the output as it is, its last word now in the record. -/
theorem closeWord_effect : c.closeWord.outWordAt = c.outWordAt ∧ c.record <+: c.closeWord.record ∧
    c.closeWord.record.length = (if c.packPhase = 0 then c.record.length else c.record.length + 1) ∧
    c.closeWord = { c with packPhase := 0, building := c.closeWord.building, record := c.closeWord.record } := by
  unfold RenderCtx.closeWord
  split
  · next h => exact ⟨rfl, List.prefix_rfl, rfl, by rw [← h]⟩
  · refine ⟨?_, List.prefix_append _ _, by simp, rfl⟩
    funext i
    simp only [RenderCtx.outWordAt, List.append_assoc]
    rw [List.getD_eq_getElem?_getD, List.getD_eq_getElem?_getD, ← List.append_assoc, List.getElem?_append]
    split
    · rfl
    · next hi =>
      rw [List.getElem?_eq_none (Nat.not_lt.mp hi)]
      cases i - (c.record ++ [c.building]).length <;> simp

/-- The next turn of BAND_EMIT: what it packs, and where (R108). -/
theorem emit_effect (h : c.Clear) :
    let m := min ((256 - c.record.length) * 4 - c.packPhase) (c.bandEnd c.band - c.cursor)
    let t := c.emit o set
    t = { c with cursor := c.cursor + m, building := t.building, record := t.record
                 packPhase := if c.cursor + m = c.count then 0 else (c.packPhase + m) % 4 } ∧
      t.record.length = (if c.cursor + m = c.count then (4 * c.record.length + c.packPhase + m + 3) / 4
        else (4 * c.record.length + c.packPhase + m) / 4) ∧
      c.record <+: t.record ∧ (∀ k < c.packed, t.outByte k = c.outByte k) ∧
      (∀ i < m, t.outByte (c.packed + i) = BitVec.ofNat 8 (c.outputSample o set (c.cursor + i))) ∧
      ∀ j, (c.packed + m) % 4 ≤ j → j < 4 → byteOf (t.outWordAt ((c.packed + m) / 4)) j = 0 := by
  intro m t
  obtain ⟨hframe, hpacked, ⟨hphase, hzero⟩, hold, hnew, hpre⟩ := packMany_effect (o := o) (set := set) m h
  have hemit : t = if c.cursor + m = c.count then (RenderCtx.packMany o set m c).closeWord else RenderCtx.packMany o set m c := by
    have hcursor : (RenderCtx.packMany o set m c).cursor = c.cursor + m ∧ (RenderCtx.packMany o set m c).count = c.count := by
      rw [hframe]; exact ⟨rfl, rfl⟩
    rw [← hcursor.1, ← hcursor.2]
    rfl
  generalize RenderCtx.packMany o set m c = u at *
  have hu : u.record.length = (c.packed + m) / 4 ∧ u.packPhase = (c.packed + m) % 4 := by
    rw [← hpacked]; unfold RenderCtx.packed; omega
  have hph : (c.packed + m) % 4 = (c.packPhase + m) % 4 := by unfold RenderCtx.packed; omega
  have hlast (w : Nat → Word) (hw : w = u.outWordAt) (j : Nat) (hj : (c.packed + m) % 4 ≤ j) (hj4 : j < 4) :
      byteOf (w ((c.packed + m) / 4)) j = 0 := by
    rw [hw, ← hu.1, outWordAt_building]
    exact hzero j (hu.2 ▸ hj) hj4
  by_cases hend : c.cursor + m = c.count
  · rw [if_pos hend] at hemit
    obtain ⟨cwords, cpre, clen, cframe⟩ := closeWord_effect (c := u)
    have hbyte : t.outByte = u.outByte := by funext k; rw [RenderCtx.outByte, RenderCtx.outByte, hemit, cwords]
    refine ⟨?_, ?_, ?_, fun k hk => ?_, fun i hi => ?_, hlast _ (by rw [hemit, cwords])⟩
    · rw [hemit, cframe, hframe, if_pos hend]
    · rw [hemit, clen, if_pos hend, hu.1, hu.2]
      unfold RenderCtx.packed
      split <;> omega
    · rw [hemit]; exact hpre.trans cpre
    · rw [hbyte, hold k hk]
    · rw [hbyte, hnew i hi]
  · rw [if_neg hend] at hemit
    rw [hemit]
    refine ⟨?_, ?_, hpre, hold, hnew, hlast _ rfl⟩
    · rw [if_neg hend, ← hph, ← hu.2, hframe]
    · rw [if_neg hend, hu.1]; rfl

/-! ## The moves of BAND_EMIT -/

theorem recordComplete_iff :
    c.recordComplete = true ↔ c.record.length = 256 ∨ (c.cursor = c.count ∧ c.packPhase = 0 ∧ c.record ≠ []) := by
  simp [RenderCtx.recordComplete, and_assoc]

/-- A render in BAND_EMIT with no read in flight comes to its next move there. -/
theorem advance_emit (hr : (s.port p).restart = .none) (ho : (s.port p).op = .render c) (hc : c.cancelled = false)
    (hph : c.bandPhase = .emit) (hb : portInBurst p s = false) (hf : s.findObject c.object = some o) :
    advance p s = advanceEmit p c o s := by
  simp [advance, hr, ho, advanceRender, hb, hc, hf, hph]

/-- Settles O22: the start by `exec_render_accepted`, the packing by `emit_effect`, the moves by `advance_emit`. -/
theorem renderStartsWithSnapshot : Obligations.RenderStartsWithSnapshot := by
  refine ⟨fun p tag object x0 x1 y0 y1 scale curve o e s hs hobj hsc hcv ho he hx hx1 hy hy1 hb => ?_,
    fun c o set i j cls hi hcls => ?_, fun c o set hphase hzero => ?_, fun p c o s hr ho hc hph hb hf => ⟨fun h hq => ?_, fun h hq => ?_,
    fun v hv h hcur hband => ?_⟩⟩
  · have hexec := exec_render_accepted (tag := tag) (x0 := x0) (x1 := x1) (y0 := y0) (y1 := y1) hs hobj hsc hcv ho he
      (windowFits_iff.mpr ⟨hx, hx1, hy, hy1⟩) hb
    rw [effectiveScale_eq, chosenSet_eq] at hexec
    exact ⟨_, hexec, rfl, rfl, rfl, rfl, rfl, rfl, rfl, rfl, rfl, renderStart_band .., rfl, rfl, rfl, rfl, rfl, rfl, rfl, rfl, rfl, rfl,
      rfl, rfl, rfl, scaled_mem_renderNotes, ignored_mem_renderNotes⟩
  · rw [outputSample_eq hi, hcls]
    cases cls <;> rfl
  · obtain ⟨hframe, hlen, hpre, hold, hnew, hlast⟩ := emit_effect (o := o) (set := set) (c := c) ⟨hphase, hzero⟩
    have hlt (j : Nat) (hj : j < c.packPhase) : (4 * c.record.length + j) / 4 = c.record.length ∧ (4 * c.record.length + j) % 4 = j := by
      omega
    refine ⟨hframe, hlen, fun i hi => ?_, fun j hj => ?_, fun i hi => ?_, fun hend j hm hj hj4 => ?_⟩
    · rw [List.getElem?_eq_getElem hi, hpre.getElem hi, ← List.getElem?_eq_getElem]
    · have hbyte := hold (4 * c.record.length + j) (by unfold RenderCtx.packed; omega)
      rw [RenderCtx.outByte, RenderCtx.outByte, (hlt j hj).1, (hlt j hj).2, outWordAt_building] at hbyte
      exact hbyte
    · have hbyte := hnew i hi
      have hmod : (c.packed + i) % 4 = (c.packPhase + i) % 4 := by unfold RenderCtx.packed; omega
      rw [RenderCtx.outByte, hmod] at hbyte
      exact hbyte
    · refine hlast j ?_ hj4
      have hmod (m : Nat) : (c.packed + m) % 4 = (c.packPhase + m) % 4 := by unfold RenderCtx.packed; omega
      rw [hmod]
      exact hj
  · rw [advance_emit hr ho hc hph hb hf, advanceEmit, if_pos (recordComplete_iff.mpr h), if_pos (hasPlace_iff.mpr hq), ho]
    cases p <;> rfl
  · rw [advance_emit hr ho hc hph hb hf, advanceEmit, if_pos (recordComplete_iff.mpr h),
      if_neg (by rw [hasPlace_false_iff.mpr hq]; simp)]
  · rw [advance_emit hr ho hc hph hb hf, advanceEmit, if_neg (by rw [recordComplete_iff]; exact h), if_neg hcur, if_pos hband, hv, ho]
    rfl

end Sys2Proof.Machine
end

section
/-!
PROOF. Tiles as medium words, and what a read burst delivers of them: O42 and O43.
-/

namespace Sys2Proof.Assoc

variable {α : Type} [DecidableEq α] {d : Nat → α} {l : List (Nat × α)} {k n : Nat} {v : α}

/-! ## Members of a sparse table -/

theorem mem_put {x : Nat × α} (h : x ∈ put d l k v) : x = (k, v) ∨ x ∈ l := by
  induction l with
  | nil =>
    simp only [put] at h
    split at h <;> simp_all
  | cons y rest ih =>
    obtain ⟨j, w⟩ := y
    simp only [put] at h
    split at h
    · split at h
      · exact .inr h
      · exact List.mem_cons.mp h
    · split at h
      · split at h
        · exact .inr (List.mem_cons_of_mem _ h)
        · rcases List.mem_cons.mp h with h | h
          · exact .inl h
          · exact .inr (List.mem_cons_of_mem _ h)
      · rcases List.mem_cons.mp h with h | h
        · exact .inr (h ▸ List.mem_cons_self)
        · exact (ih h).imp_right (List.mem_cons_of_mem _)

/-- What is read is the default, or stands in the table. -/
theorem get_default_or_mem (d : Nat → α) (l : List (Nat × α)) (k : Nat) : get d l k = d k ∨ (k, get d l k) ∈ l := by
  induction l with
  | nil => exact .inl rfl
  | cons y rest ih =>
    obtain ⟨j, w⟩ := y
    by_cases h : k = j
    · subst h; simp [get]
    · simp only [get, h, if_false]
      exact ih.imp_right (List.mem_cons_of_mem _)

theorem get_of_not_mem (h : ∀ x ∈ l, x.1 ≠ k) : get d l k = d k :=
  (get_default_or_mem d l k).resolve_right fun hm => h _ hm rfl

theorem get_append_of_not_mem {l' : List (Nat × α)} (h : ∀ x ∈ l, x.1 ≠ k) : get d (l ++ l') k = get d l' k := by
  induction l with
  | nil => rfl
  | cons y rest ih =>
    have hy : k ≠ y.1 := Ne.symm (h y List.mem_cons_self)
    rw [List.cons_append, get, if_neg hy]
    exact ih fun x hx => h x (List.mem_cons_of_mem _ hx)

theorem get_append_of_not_mem_right {l' : List (Nat × α)} (h : ∀ x ∈ l', x.1 ≠ k) : get d (l ++ l') k = get d l k := by
  induction l with
  | nil => exact get_of_not_mem h
  | cons y rest ih =>
    rw [List.cons_append, get, get, ih]

/-- The numbers of a canonical table lie above its bound. -/
theorem lt_of_wfAbove (h : wfAbove d (some n) l = true) {x : Nat × α} (hx : x ∈ l) : n < x.1 := by
  induction l generalizing n with
  | nil => simp at hx
  | cons y rest ih =>
    simp only [wfAbove, Bool.and_eq_true, decide_eq_true_eq] at h
    obtain ⟨⟨hlt, -⟩, hrest⟩ := h
    rcases List.mem_cons.mp hx with rfl | hx
    · exact hlt
    · exact hlt.trans (ih hrest hx)

theorem wf_cons {x : Nat × α} (h : wf d (x :: l) = true) : x.2 ≠ d x.1 ∧ wfAbove d (some x.1) l = true := by
  simpa [wf, wfAbove] using h

theorem wf_of_wfAbove (h : wfAbove d (some n) l = true) : wf d l = true := by
  cases l with
  | nil => rfl
  | cons y rest =>
    simp only [wfAbove, Bool.and_eq_true, decide_eq_true_eq] at h
    simp [wf, wfAbove, h.1.2, h.2]

/-- A canonical table lists what it reads as, in rising numbers. -/
theorem eq_filterMap_range' : ∀ {n a : Nat} {l : List (Nat × α)}, wf d l = true → (∀ x ∈ l, a ≤ x.1 ∧ x.1 < a + n) →
    (List.range' a n).filterMap (fun k => if get d l k = d k then none else some (k, get d l k)) = l
  | 0, a, l, _, hk => by
    cases l with
    | nil => rfl
    | cons x rest => have hx := hk x List.mem_cons_self; omega
  | n + 1, a, l, hl, hk => by
    rw [List.range'_succ, List.filterMap_cons]
    by_cases ha : ∃ v rest, l = (a, v) :: rest
    · obtain ⟨v, rest, rfl⟩ := ha
      obtain ⟨hv, hrest⟩ := wf_cons hl
      have hget : get d ((a, v) :: rest) a = v := by simp [get]
      have htail : (List.range' (a + 1) n).filterMap (fun k => if get d ((a, v) :: rest) k = d k then none
          else some (k, get d ((a, v) :: rest) k)) = rest := by
        refine (List.filterMap_congr fun k hk => ?_).trans (eq_filterMap_range' (n := n) (a := a + 1) (wf_of_wfAbove hrest) fun x hx => ?_)
        · have hne : k ≠ a := by have := List.mem_range'_1.mp hk; omega
          simp only [get, hne, if_false]
        · have h1 := lt_of_wfAbove hrest hx
          have h2 := hk x (List.mem_cons_of_mem _ hx)
          omega
      simp only [hget, if_neg hv, htail]
    · have hne : ∀ x ∈ l, x.1 ≠ a := by
        intro x hx hxa
        cases l with
        | nil => simp at hx
        | cons y rest =>
          have hy := hk y List.mem_cons_self
          rcases List.mem_cons.mp hx with rfl | hx
          · exact ha ⟨x.2, rest, by rw [← hxa]⟩
          · have := lt_of_wfAbove (wf_cons hl).2 hx
            omega
      rw [if_pos (get_of_not_mem hne)]
      refine eq_filterMap_range' hl fun x hx => ?_
      have h1 := hk x hx
      have h2 := hne x hx
      omega

/-- A table made of a function's values, from number `b` on, reads as the function. -/
theorem get_filterMap_from {f : Nat → α} (b N k : Nat) :
    get d ((List.range N).filterMap fun i => if f i = d (b + i) then none else some (b + i, f i)) k =
      if b ≤ k ∧ k < b + N then f (k - b) else d k := by
  induction N with
  | zero => simp [get]
  | succ N ih =>
    rw [List.range_succ, List.filterMap_append]
    have hkeys : ∀ x ∈ (List.range N).filterMap (fun i => if f i = d (b + i) then none else some (b + i, f i)), x.1 < b + N := by
      intro x hx
      obtain ⟨j, hj, hjx⟩ := List.mem_filterMap.mp hx
      have hjN := List.mem_range.mp hj
      split at hjx
      · simp at hjx
      · obtain rfl := Option.some.inj hjx
        omega
    by_cases hk : k = b + N
    · subst hk
      rw [get_append_of_not_mem fun x hx => (hkeys x hx).ne, if_pos (by omega), Nat.add_sub_cancel_left]
      by_cases hf : f N = d (b + N) <;> simp [hf, get]
    · have hcond : (b ≤ k ∧ k < b + (N + 1)) ↔ (b ≤ k ∧ k < b + N) := by omega
      rw [get_append_of_not_mem_right fun x hx => ?_, ih]
      · simp only [hcond]
      · by_cases hf : f N = d (b + N)
        · simp [hf] at hx
        · simp only [List.filterMap_cons, hf, if_false, List.filterMap_nil, List.mem_singleton] at hx
          rw [hx]
          exact Ne.symm hk

theorem get_filterMap_range {f : Nat → α} (N k : Nat) :
    get d ((List.range N).filterMap fun i => if f i = d i then none else some (i, f i)) k = if k < N then f k else d k := by
  have h := get_filterMap_from (d := d) (f := f) 0 N k
  simpa only [Nat.zero_add, Nat.zero_le, true_and, Nat.sub_zero] using h

end Sys2Proof.Assoc

namespace Sys2Proof.Machine

open Sys2Proof

variable {s : State} {t : Tile}

/-! ## Tiles and their words -/

theorem tileWf_iff : tileWf t = true ↔ Assoc.wf zeroRow t = true ∧
    ∀ x ∈ t, x.1 < 128 ∧ Assoc.wf zeroSample x.2 = true ∧ ∀ y ∈ x.2, y.1 < 128 := by
  simp [tileWf, and_assoc]

/-- A row of a tile in canonical form is itself in canonical form. -/
theorem tileRow_wf (h : tileWf t = true) (row : Nat) :
    Assoc.wf zeroSample (Assoc.get zeroRow t row) = true ∧ ∀ y ∈ Assoc.get zeroRow t row, y.1 < 128 := by
  obtain ⟨-, hrows⟩ := tileWf_iff.mp h
  rcases Assoc.get_default_or_mem zeroRow t row with he | hm
  · rw [he]; exact ⟨rfl, by simp [zeroRow]⟩
  · exact (hrows _ hm).2

theorem packRow_keys {row : Nat} {r : TileRow} {x : Nat × WordData} (hx : x ∈ packRow row r) : x.1 / 32 = row := by
  obtain ⟨w, hw, hx⟩ := List.mem_filterMap.mp hx
  rw [List.mem_range] at hw
  dsimp only at hx
  split at hx
  · simp at hx
  · obtain rfl := Option.some.inj hx
    omega

/-- The words of a tile's row are those of the row alone. -/
theorem packTile_filter (h : Assoc.wf zeroRow t = true) (row : Nat) :
    ((packTile t).filter fun x => x.1 / 32 == row) = packRow row (Assoc.get zeroRow t row) := by
  have hempty : packRow row [] = [] := by
    refine List.filterMap_eq_nil_iff.mpr fun w _ => ?_
    exact if_pos (show packSamples 0 0 0 0 = 0 by decide)
  induction t with
  | nil => exact hempty.symm
  | cons x rest ih =>
    obtain ⟨j, r⟩ := x
    obtain ⟨-, hrest⟩ := Assoc.wf_cons h
    have hsplit : packTile ((j, r) :: rest) = packRow j r ++ packTile rest := rfl
    rw [hsplit, List.filter_append, ih (Assoc.wf_of_wfAbove hrest)]
    by_cases hj : row = j
    · subst hj
      have hget : Assoc.get zeroRow rest row = [] := Assoc.get_of_wfAbove hrest le_rfl
      rw [hget, hempty, List.append_nil, List.filter_eq_self.mpr fun x hx => by simpa using packRow_keys hx]
      simp [Assoc.get]
    · rw [List.filter_eq_nil_iff.mpr fun x hx => by rw [packRow_keys hx]; simpa using Ne.symm hj, List.nil_append]
      simp [Assoc.get, hj]

/-- A sample comes out of the container it was packed into. -/
theorem packSamples_extract (a b c d : Sample) :
    (packSamples a b c d).extractLsb' 0 10 = a ∧ (packSamples a b c d).extractLsb' 16 10 = b ∧
      (packSamples a b c d).extractLsb' 32 10 = c ∧ (packSamples a b c d).extractLsb' 48 10 = d := by
  refine ⟨?_, ?_, ?_, ?_⟩ <;>
    (apply BitVec.eq_of_getLsbD_eq
     intro i hi
     simp only [packSamples, BitVec.getLsbD_extractLsb', BitVec.getLsbD_or, BitVec.getLsbD_shiftLeft, BitVec.getLsbD_setWidth]
     interval_cases i <;> simp)

/-- The samples of a word of a row. -/
theorem unpack_packSamples {w : Nat} (hw : w < 32) (row : Nat) (f : Nat → Sample) :
    unpackData (32 * row + w) (packSamples (f 0) (f 1) (f 2) (f 3)) =
      (List.range 4).filterMap fun i => if f i = 0 then none else some (4 * w + i, f i) := by
  have hmod : (32 * row + w) % 32 = w := by omega
  obtain ⟨h0, h1, h2, h3⟩ := packSamples_extract (f 0) (f 1) (f 2) (f 3)
  rw [unpackData, hmod]
  refine List.filterMap_congr fun i hi => ?_
  have hi4 : i < 4 := List.mem_range.mp hi
  have hv : (packSamples (f 0) (f 1) (f 2) (f 3)).extractLsb' (16 * i) 10 = f i := by
    interval_cases i <;> assumption
  simp only [hv]

/-- A word of zeros has no sample. -/
theorem unpackData_zero (w : Nat) : unpackData w 0 = [] := by
  refine List.filterMap_eq_nil_iff.mpr fun i _ => ?_
  simp

theorem range_128_eq : List.range 128 = (List.range 32).flatMap fun w => (List.range 4).map fun i => 4 * w + i := by decide

/-- A row in canonical form survives being written as words and read back. -/
theorem unpack_packRow {r : TileRow} (h : Assoc.wf zeroSample r = true) (hk : ∀ y ∈ r, y.1 < 128) (row : Nat) :
    (packRow row r).flatMap (fun x => unpackData x.1 x.2) = r := by
  have hcanon : (List.range 128).filterMap (fun k => if Assoc.get zeroSample r k = 0 then none else some (k, Assoc.get zeroSample r k)) = r := by
    rw [List.range_eq_range']
    exact Assoc.eq_filterMap_range' h fun x hx => ⟨Nat.zero_le _, by simpa using hk x hx⟩
  have hwords (l : List Nat) (hl : ∀ w ∈ l, w < 32) : (l.filterMap fun w =>
      let at' (i : Nat) : Sample := Assoc.get zeroSample r (4 * w + i)
      let d := packSamples (at' 0) (at' 1) (at' 2) (at' 3)
      if d = 0 then none else some (32 * row + w, d)).flatMap (fun x => unpackData x.1 x.2) =
        l.flatMap fun w => (List.range 4).filterMap fun i =>
          if Assoc.get zeroSample r (4 * w + i) = 0 then none else some (4 * w + i, Assoc.get zeroSample r (4 * w + i)) := by
    induction l with
    | nil => rfl
    | cons w rest ih =>
      have hw := unpack_packSamples (hl w List.mem_cons_self) row fun i => Assoc.get zeroSample r (4 * w + i)
      rw [List.flatMap_cons, ← ih fun v hv => hl v (List.mem_cons_of_mem _ hv), ← hw]
      dsimp only
      rw [List.filterMap_cons]
      by_cases hd : packSamples (Assoc.get zeroSample r (4 * w + 0)) (Assoc.get zeroSample r (4 * w + 1))
          (Assoc.get zeroSample r (4 * w + 2)) (Assoc.get zeroSample r (4 * w + 3)) = 0
      · simp only [hd, if_true, unpackData_zero, List.nil_append]
      · simp only [hd, if_false, List.flatMap_cons]
  rw [packRow, hwords _ fun w hw => List.mem_range.mp hw]
  conv_rhs => rw [← hcanon, range_128_eq, List.filterMap_flatMap]
  simp only [List.filterMap_map]
  rfl

/-- Settles O42: each row by `unpack_packRow`, and the tile from its rows. -/
theorem tileWordsRoundTrip : Obligations.TileWordsRoundTrip := by
  intro t h
  obtain ⟨hwf, hrows⟩ := tileWf_iff.mp h
  have hrow (row : Nat) : ((packTile t).filter fun x => x.1 / 32 == row).flatMap (fun x => unpackData x.1 x.2) =
      Assoc.get zeroRow t row := by
    obtain ⟨hr, hk⟩ := tileRow_wf h row
    rw [packTile_filter hwf, unpack_packRow hr hk]
  have hcanon : (List.range 128).filterMap (fun k => if Assoc.get zeroRow t k = zeroRow k then none
      else some (k, Assoc.get zeroRow t k)) = t := by
    rw [List.range_eq_range']
    exact Assoc.eq_filterMap_range' hwf fun x hx => ⟨Nat.zero_le _, by simpa using (hrows x hx).1⟩
  conv_rhs => rw [← hcanon]
  rw [unpackWords]
  simp only [hrow]
  rfl

/-! ## The samples of words -/

theorem get_unpackData (w : Nat) (d : WordData) (k : Nat) : Assoc.get zeroSample (unpackData w d) k =
    if k / 4 = w % 32 then d.extractLsb' (16 * (k % 4)) 10 else 0 := by
  refine (Assoc.get_filterMap_from (d := zeroSample) (f := fun i => d.extractLsb' (16 * i) 10) (4 * (w % 32)) 4 k).trans ?_
  by_cases hk : k / 4 = w % 32
  · rw [if_pos (by omega), if_pos hk, show k - 4 * (w % 32) = k % 4 by omega]
  · rw [if_neg (by omega), if_neg hk]
    rfl

theorem unpackData_keys {w : Nat} {d : WordData} {y : Nat × Sample} (hy : y ∈ unpackData w d) : y.1 / 4 = w % 32 := by
  obtain ⟨i, hi, hy⟩ := List.mem_filterMap.mp hy
  have hi4 := List.mem_range.mp hi
  dsimp only at hy
  split at hy
  · simp at hy
  · obtain rfl := Option.some.inj hy
    omega

/-- A sample of a row comes from its container of its word. -/
theorem get_unpackRow {ws : List (Nat × WordData)} (h : Assoc.wf zeroWord ws = true) (row : Nat) {k : Nat} (hk : k < 128) :
    Assoc.get zeroSample ((ws.filter fun x => x.1 / 32 == row).flatMap fun x => unpackData x.1 x.2) k =
      (Assoc.get zeroWord ws (32 * row + k / 4)).extractLsb' (16 * (k % 4)) 10 := by
  induction ws with
  | nil => simp [Assoc.get, zeroSample, zeroWord]
  | cons x rest ih =>
    obtain ⟨w, d⟩ := x
    obtain ⟨-, hrest⟩ := Assoc.wf_cons h
    have ih' := ih (Assoc.wf_of_wfAbove hrest)
    by_cases hw : w / 32 = row
    · rw [List.filter_cons_of_pos (by simpa using hw), List.flatMap_cons]
      by_cases hkw : k / 4 = w % 32
      · have hget : Assoc.get zeroWord ((w, d) :: rest) (32 * row + k / 4) = d := by
          rw [Assoc.get, if_pos (by omega)]
        rw [Assoc.get_append_of_not_mem_right fun y hy => ?_, get_unpackData, if_pos hkw, hget]
        obtain ⟨x, hx, hy⟩ := List.mem_flatMap.mp hy
        obtain ⟨hx, hxrow⟩ := List.mem_filter.mp hx
        have hlt := Assoc.lt_of_wfAbove hrest hx
        have hkey := unpackData_keys hy
        rw [beq_iff_eq] at hxrow
        omega
      · rw [Assoc.get_append_of_not_mem fun y hy => ?_, ih', Assoc.get, if_neg (by omega)]
        have hkey := unpackData_keys hy
        rintro rfl
        exact hkw hkey
    · rw [List.filter_cons_of_neg (by simpa using hw), ih', Assoc.get, if_neg (by omega)]

/-- Sample `i` of a tile comes from container `i % 4` of word `i / 4` (R2). -/
theorem tileGet_unpackWords {ws : List (Nat × WordData)} (h : Assoc.wf zeroWord ws = true) {i : Nat} (hi : i < 16384) :
    tileGet (unpackWords ws) i = (Assoc.get zeroWord ws (i / 4)).extractLsb' (16 * (i % 4)) 10 := by
  have hrow : Assoc.get zeroRow (unpackWords ws) (i / 128) =
      (ws.filter fun x => x.1 / 32 == i / 128).flatMap fun x => unpackData x.1 x.2 := by
    refine (Assoc.get_filterMap_range (d := zeroRow) (f := fun row =>
      (ws.filter fun x => x.1 / 32 == row).flatMap fun x => unpackData x.1 x.2) 128 (i / 128)).trans ?_
    rw [if_pos (by omega)]
  rw [tileGet, hrow, get_unpackRow h _ (Nat.mod_lt i (by decide)), show 32 * (i / 128) + i % 128 / 4 = i / 4 by omega,
    show i % 128 % 4 = i % 4 by omega]

/-! ## What a read delivers -/

variable {nonce : Nat} {e : WordError} {ws : List (Nat × WordData)} {errors : List WordError}

theorem wordClass_one (h : wrongBits e.mask = 1) : wordClass nonce e = .corrected := by simp [wordClass, h]

theorem wordClass_two (h : wrongBits e.mask = 2) : wordClass nonce e = .double := by simp [wordClass, h]

theorem deliverWord_one (h : wrongBits e.mask = 1) : deliverWord nonce ws e = ws := by simp [deliverWord, wordClass_one h, h]

theorem deliverWord_two (h : wrongBits e.mask = 2) :
    deliverWord nonce ws e = Assoc.put zeroWord ws e.word (Assoc.get zeroWord ws e.word ^^^ e.mask.setWidth 64) := by
  simp [deliverWord, wordClass_two h]

theorem deliver_ones (h : ∀ e ∈ errors, wrongBits e.mask = 1) : errors.foldl (deliverWord nonce) ws = ws := by
  induction errors with
  | nil => rfl
  | cons e rest ih =>
    rw [List.foldl_cons, deliverWord_one (h e List.mem_cons_self), ih fun f hf => h f (List.mem_cons_of_mem _ hf)]

/-- A word that no error names is delivered as it is. -/
theorem deliver_unnamed {w : Nat} (h : ∀ e ∈ errors, wrongBits e.mask = 1 ∨ wrongBits e.mask = 2) (hw : ∀ e ∈ errors, e.word ≠ w) :
    Assoc.get zeroWord (errors.foldl (deliverWord nonce) ws) w = Assoc.get zeroWord ws w := by
  induction errors generalizing ws with
  | nil => rfl
  | cons e rest ih =>
    rw [List.foldl_cons, ih (fun f hf => h f (List.mem_cons_of_mem _ hf)) fun f hf => hw f (List.mem_cons_of_mem _ hf)]
    rcases h e List.mem_cons_self with h1 | h2
    · rw [deliverWord_one h1]
    · rw [deliverWord_two h2, Assoc.get_put_other _ (Ne.symm (hw e List.mem_cons_self))]

/-- The words delivered where no word is named twice: as stored where at most one bit is wrong, as read where two are (R3). -/
theorem deliver_words (h : ∀ e ∈ errors, wrongBits e.mask = 1 ∨ wrongBits e.mask = 2)
    (hs : errors.Pairwise fun a b => a.word < b.word) (hws : Assoc.wf zeroWord ws = true) :
    Assoc.wf zeroWord (errors.foldl (deliverWord nonce) ws) = true ∧ ∀ w,
      ((∀ e ∈ errors, e.word = w → wrongBits e.mask = 1) →
        Assoc.get zeroWord (errors.foldl (deliverWord nonce) ws) w = Assoc.get zeroWord ws w) ∧
      ∀ e ∈ errors, e.word = w → wrongBits e.mask = 2 →
        Assoc.get zeroWord (errors.foldl (deliverWord nonce) ws) w = Assoc.get zeroWord ws w ^^^ e.mask.setWidth 64 := by
  induction errors generalizing ws with
  | nil => exact ⟨hws, fun w => ⟨fun _ => rfl, by simp⟩⟩
  | cons e rest ih =>
    obtain ⟨hlt, hrest⟩ := List.pairwise_cons.mp hs
    have hr : ∀ f ∈ rest, wrongBits f.mask = 1 ∨ wrongBits f.mask = 2 := fun f hf => h f (List.mem_cons_of_mem _ hf)
    rcases h e List.mem_cons_self with h1 | h2
    · rw [List.foldl_cons, deliverWord_one h1]
      obtain ⟨hwf, hget⟩ := ih hr hrest hws
      refine ⟨hwf, fun w => ⟨fun hone => (hget w).1 fun f hf => hone f (List.mem_cons_of_mem _ hf), fun f hf hfw h2 => ?_⟩⟩
      rcases List.mem_cons.mp hf with rfl | hf
      · omega
      · exact (hget w).2 f hf hfw h2
    · rw [List.foldl_cons, deliverWord_two h2]
      obtain ⟨hwf, hget⟩ := ih hr hrest (Assoc.wf_put e.word (Assoc.get zeroWord ws e.word ^^^ e.mask.setWidth 64) hws)
      refine ⟨hwf, fun w => ⟨fun hone => ?_, fun f hf hfw hf2 => ?_⟩⟩
      · have hne : w ≠ e.word := by
          rintro rfl
          have := hone e List.mem_cons_self rfl
          omega
        rw [(hget w).1 fun f hf => hone f (List.mem_cons_of_mem _ hf), Assoc.get_put_other _ hne]
      · rcases List.mem_cons.mp hf with rfl | hf
        · subst hfw
          rw [deliver_unnamed hr fun f hf => (hlt f hf).ne', Assoc.get_put_same _ _ hws]
        · have hne : w ≠ e.word := hfw ▸ (hlt f hf).ne'
          rw [(hget w).2 f hf hfw hf2, Assoc.get_put_other _ hne]

/-- The result of a read whose errors are of one or two bits (R3). -/
theorem readResult_eq (h : ∀ e ∈ errors, wrongBits e.mask = 1 ∨ wrongBits e.mask = 2) : readResult nonce errors =
    if (errors.any fun e => decide (wrongBits e.mask = 2)) then .uncorrectable (errors.countP fun e => decide (wrongBits e.mask = 1))
    else if (errors.countP fun e => decide (wrongBits e.mask = 1)) = 0 then .clean
    else .corrected (errors.countP fun e => decide (wrongBits e.mask = 1)) := by
  have hclass : ∀ e ∈ errors, (wordClass nonce e == .corrected) = decide (wrongBits e.mask = 1) ∧
      (wordClass nonce e == .double) = decide (wrongBits e.mask = 2) := by
    intro e he
    rcases h e he with h1 | h2
    · rw [wordClass_one h1, h1]; exact ⟨rfl, rfl⟩
    · rw [wordClass_two h2, h2]; exact ⟨rfl, rfl⟩
  have hcount : (errors.countP fun e => wordClass nonce e == .corrected) = errors.countP fun e => decide (wrongBits e.mask = 1) :=
    List.countP_congr fun e he => by rw [(hclass e he).1]
  have hany : (errors.any fun e => wordClass nonce e == .double) = errors.any fun e => decide (wrongBits e.mask = 2) := by
    rw [Bool.eq_iff_iff, List.any_eq_true, List.any_eq_true]
    exact exists_congr fun e => and_congr_right fun he => by rw [(hclass e he).2]
  rw [readResult, hcount, hany]

/-- Settles O43: the result by `readResult_eq`, the samples by `deliver_words` and `tileGet_unpackWords`. -/
theorem readResults : Obligations.ReadResults := by
  intro s n errors h
  have hresult : (deliver s n (.delivered errors)).result = readResult s.freeCount errors := rfl
  have hsamples : (deliver s n (.delivered errors)).samples =
    unpackWords (errors.foldl (deliverWord s.freeCount) (wordsOf (mediumRead s.medium n))) := rfl
  refine ⟨fun hnil => ?_, fun hne hone => ?_, fun hone => ?_, fun htwo => ?_, fun hs hwf i hi => ?_⟩
  · subst hnil; rfl
  · have hany : (errors.any fun e => decide (wrongBits e.mask = 2)) = false := by
      rw [List.any_eq_false]
      intro e he
      simp [hone e he]
    have hcount : (errors.countP fun e => decide (wrongBits e.mask = 1)) = errors.length :=
      List.countP_eq_length.mpr fun e he => by simpa using hone e he
    rw [hresult, readResult_eq h, hany, hcount]
    simp [hne]
  · rw [hsamples, deliver_ones hone]
  · have hany : (errors.any fun e => decide (wrongBits e.mask = 2)) = true := by simpa using htwo
    rw [hresult, readResult_eq h, hany, if_pos rfl]
  · obtain ⟨hwf', hget⟩ := deliver_words (nonce := s.freeCount) h hs hwf
    obtain ⟨hone, htwo⟩ := hget (i / 4)
    rw [hsamples, tileGet_unpackWords hwf' hi]
    exact ⟨fun h1 => by rw [hone h1], fun e he hw h2 => by rw [htwo e he hw h2]⟩

end Sys2Proof.Machine
end

section
/-!
PROOF. PUT_WINDOW: the store it starts, the order of its stream, and what BAND_FILL takes from a data record: O20.
-/

namespace Sys2Proof.Machine

open Sys2Proof

variable {s : State} {tag : Tag} {c : StoreCtx} {o : ObjectRec} {t : Tile}

/-! ## The start of a store -/

theorem covers_eq (tile : Nat × Nat) : c.covers tile = decide (c.x0 ≤ tile.1 * 128 ∧ tile.1 * 128 + 127 ≤ c.x1 ∧
    c.y0 ≤ tile.2 * 128 ∧ tile.2 * 128 + 127 ≤ c.y1) := by
  simp [StoreCtx.covers, Bool.decide_and, Bool.and_assoc]

/-- PUT_WINDOW with its checks passed starts a store (R45, R46). -/
theorem exec_putWindow_accepted {object x0 x1 y0 y1 axis mirror packing : Word} {ax : Axis} {mi : Bool} {pk : Packing} {e : EditionRec}
    (hs : Accepts .a s) (hax : axisOf (numberOf axis) = some ax) (hmi : mirrorOf (numberOf mirror) = some mi)
    (hpk : packingOf (numberOf packing) = some pk) (hobj : numberOf object ≤ 8191) (ho : s.findObject (numberOf object) = some o)
    (he : s.findEdition o.key = some e) (hmay : e.state = .opened ∨ lockOf s o.key = some .held)
    (hfit : windowFits o (numberOf x0) (numberOf x1) (numberOf y0) (numberOf y1) = true) :
    exec (.putWindow .a tag object x0 x1 y0 y1 axis mirror packing) s = .next (settle (s.setOp .a (.store
      (storeStart tag o (numberOf x0) (numberOf x1) (numberOf y0) (numberOf y1) ax mi pk)))) := by
  refine exec_accepted hs rfl rfl rfl ?_
  have hmay' : mayChange s e = true := (mayChange_iff (findEdition_key he)).mpr hmay
  simp only [hax, hmi, hpk, Nat.not_lt.mpr hobj, if_false, ho, hfit, not_true_eq_false, he, hmay']

/-! ## The stream of a store -/

/-- The number of lines of a stream. -/
def StoreCtx.lines (c : StoreCtx) : Nat :=
  match c.axis with
  | .rows => c.y1 - c.y0 + 1
  | .columns => c.x1 - c.x0 + 1

/-- The coordinates of place `k` of a line (R47). -/
def StoreCtx.place (c : StoreCtx) (line k : Nat) : Nat × Nat :=
  match c.axis with
  | .rows => (if c.mirror then c.x1 - k else c.x0 + k, c.y0 + line)
  | .columns => (c.x0 + line, if c.mirror then c.y1 - k else c.y0 + k)

/-- The line and the place in it of a sample of the window. -/
def StoreCtx.linePlace (c : StoreCtx) (x y : Nat) : Nat × Nat :=
  match c.axis with
  | .rows => (y - c.y0, if c.mirror then c.x1 - x else x - c.x0)
  | .columns => (x - c.x0, if c.mirror then c.y1 - y else y - c.y0)

/-- The window of a store holds a sample. -/
def StoreCtx.holds (c : StoreCtx) (q : Nat × Nat) : Prop := c.x0 ≤ q.1 ∧ q.1 ≤ c.x1 ∧ c.y0 ≤ q.2 ∧ q.2 ≤ c.y1

theorem lineLength_pos : 0 < c.lineLength := by unfold StoreCtx.lineLength; split <;> omega

theorem count_eq (h : c.count = (c.x1 - c.x0 + 1) * (c.y1 - c.y0 + 1)) : c.count = c.lines * c.lineLength := by
  rw [h]
  unfold StoreCtx.lines StoreCtx.lineLength
  cases c.axis
  · exact Nat.mul_comm _ _
  · rfl

theorem position_eq (i : Nat) : c.position i = c.place (i / c.lineLength) (i % c.lineLength) := by
  unfold StoreCtx.position StoreCtx.place
  cases c.axis <;> rfl

theorem position_line {line k : Nat} (hk : k < c.lineLength) : c.position (line * c.lineLength + k) = c.place line k := by
  rw [position_eq, Nat.mul_add_mod', Nat.mod_eq_of_lt hk, Nat.mul_comm, Nat.mul_add_div lineLength_pos, Nat.div_eq_of_lt hk, Nat.add_zero]

theorem place_holds {line k : Nat} (hx : c.x0 ≤ c.x1) (hy : c.y0 ≤ c.y1) (hl : line < c.lines) (hk : k < c.lineLength) :
    c.holds (c.place line k) := by
  unfold StoreCtx.holds StoreCtx.place
  unfold StoreCtx.lines at hl
  unfold StoreCtx.lineLength at hk
  cases hax : c.axis <;> simp only [hax] at hl hk <;> cases c.mirror <;> simp <;> omega

theorem linePlace_place {line k : Nat} (hx : c.x0 ≤ c.x1) (hy : c.y0 ≤ c.y1) (hl : line < c.lines) (hk : k < c.lineLength) :
    c.linePlace (c.place line k).1 (c.place line k).2 = (line, k) := by
  unfold StoreCtx.linePlace StoreCtx.place
  unfold StoreCtx.lines at hl
  unfold StoreCtx.lineLength at hk
  cases hax : c.axis <;> simp only [hax] at hl hk <;> cases c.mirror <;> simp <;> omega

theorem place_linePlace {x y : Nat} (h : c.holds (x, y)) : c.place (c.linePlace x y).1 (c.linePlace x y).2 = (x, y) ∧
    (c.linePlace x y).1 < c.lines ∧ (c.linePlace x y).2 < c.lineLength := by
  obtain ⟨h1, h2, h3, h4⟩ := h
  simp only at h1 h2 h3 h4
  unfold StoreCtx.linePlace StoreCtx.place StoreCtx.lines StoreCtx.lineLength
  cases hax : c.axis <;> cases c.mirror <;> simp <;> omega

section Window

variable (hx : c.x0 ≤ c.x1) (hy : c.y0 ≤ c.y1) (hc : c.count = (c.x1 - c.x0 + 1) * (c.y1 - c.y0 + 1))
include hx hy hc

omit hx hy in
theorem line_lt {i : Nat} (hi : i < c.count) : i / c.lineLength < c.lines ∧ i % c.lineLength < c.lineLength :=
  ⟨Nat.div_lt_of_lt_mul (by rw [Nat.mul_comm, ← count_eq hc]; exact hi), Nat.mod_lt _ lineLength_pos⟩

/-- Every sample of the stream lies in the window. -/
theorem position_holds {i : Nat} (hi : i < c.count) : c.holds (c.position i) := by
  obtain ⟨hl, hk⟩ := line_lt hc hi
  rw [position_eq]
  exact place_holds hx hy hl hk

/-- The stream takes no sample twice. -/
theorem position_inj {i j : Nat} (hi : i < c.count) (hj : j < c.count) (h : c.position i = c.position j) : i = j := by
  obtain ⟨hli, hki⟩ := line_lt hc hi
  obtain ⟨hlj, hkj⟩ := line_lt hc hj
  have hpair : (i / c.lineLength, i % c.lineLength) = (j / c.lineLength, j % c.lineLength) := by
    rw [← linePlace_place hx hy hli hki, ← linePlace_place hx hy hlj hkj, ← position_eq, ← position_eq, h]
  obtain ⟨hdiv, hmod⟩ := Prod.mk.inj hpair
  rw [← Nat.div_add_mod i c.lineLength, ← Nat.div_add_mod j c.lineLength, hdiv, hmod]

omit hx hy in
/-- The stream takes every sample of the window. -/
theorem position_surj {x y : Nat} (h : c.holds (x, y)) : ∃ i < c.count, c.position i = (x, y) := by
  obtain ⟨hp, hl, hk⟩ := place_linePlace h
  refine ⟨(c.linePlace x y).1 * c.lineLength + (c.linePlace x y).2, ?_, by rw [position_line hk, hp]⟩
  rw [count_eq hc]
  calc (c.linePlace x y).1 * c.lineLength + (c.linePlace x y).2
      < (c.linePlace x y).1 * c.lineLength + c.lineLength := Nat.add_lt_add_left hk _
    _ = ((c.linePlace x y).1 + 1) * c.lineLength := (Nat.succ_mul _ _).symm
    _ ≤ c.lines * c.lineLength := Nat.mul_le_mul_right _ hl

theorem bandEnd_le (band : Nat) : c.bandEnd band ≤ c.count := by
  rw [count_eq hc]
  unfold StoreCtx.bandEnd StoreCtx.lines
  cases c.axis <;> exact Nat.mul_le_mul_right _ (by simp only; omega)

end Window

/-! ## The samples of a tile -/

theorem tileGet_tilePut_same (h : tileWf t = true) (i : Nat) (v : Sample) : tileGet (tilePut t i v) i = v := by
  obtain ⟨hwf, -⟩ := tileWf_iff.mp h
  rw [tileGet, tilePut, Assoc.get_put_same _ _ hwf, Assoc.get_put_same _ _ (tileRow_wf h _).1]

theorem tileGet_tilePut_other (h : tileWf t = true) {i q : Nat} (v : Sample) (hq : q ≠ i) :
    tileGet (tilePut t i v) q = tileGet t q := by
  obtain ⟨hwf, -⟩ := tileWf_iff.mp h
  rw [tileGet, tilePut, tileGet]
  by_cases hrow : q / 128 = i / 128
  · rw [hrow, Assoc.get_put_same _ _ hwf, Assoc.get_put_other _ (by omega)]
  · rw [Assoc.get_put_other _ hrow]

theorem tileWf_tilePut (h : tileWf t = true) {i : Nat} (hi : i < 16384) (v : Sample) : tileWf (tilePut t i v) = true := by
  obtain ⟨hwf, hrows⟩ := tileWf_iff.mp h
  obtain ⟨hr, hk⟩ := tileRow_wf h (i / 128)
  refine tileWf_iff.mpr ⟨Assoc.wf_put _ _ hwf, fun x hx => ?_⟩
  rcases Assoc.mem_put hx with rfl | hx
  · refine ⟨by dsimp only; omega, Assoc.wf_put _ _ hr, fun y hy => ?_⟩
    rcases Assoc.mem_put hy with rfl | hy
    · exact Nat.mod_lt i (by decide)
    · exact hk y hy
  · exact hrows x hx

/-! ## Samples placed one after another -/

/-- The tile of a sample of the stream, by its index in an object of this width. -/
def StoreCtx.tileAt (c : StoreCtx) (width i : Nat) : Nat := (c.position i).2 / 128 * width + (c.position i).1 / 128

/-- The place of a sample of the stream in its tile. -/
def StoreCtx.placeAt (c : StoreCtx) (i : Nat) : Nat := (c.position i).2 % 128 * 128 + (c.position i).1 % 128

theorem placeAt_lt (i : Nat) : c.placeAt i < 16384 := by unfold StoreCtx.placeAt; omega

theorem placeSample_eq (width : Nat) (v : Sample) : c.placeSample width v =
    { c with
      cursor := c.cursor + 1
      tiles := c.tiles.map fun bt => if bt.index = c.tileAt width c.cursor then
        { bt with samples := tilePut bt.samples (c.placeAt c.cursor) v, taken := bt.taken + 1 } else bt } := rfl

/-- What a band tile is after the samples `vs` of the stream have been placed (R54). -/
structure Filled (c : StoreCtx) (width : Nat) (vs : List Sample) (bt bt' : BandTile) : Prop where
  frame : bt' = { bt with
    taken := bt.taken + (List.range vs.length).countP (fun i => c.tileAt width (c.cursor + i) == bt.index), samples := bt'.samples }
  form : tileWf bt'.samples = true
  placed : ∀ (i : Nat) (v : Sample), i < vs.length → c.tileAt width (c.cursor + i) = bt.index → vs[i]? = some v →
    tileGet bt'.samples (c.placeAt (c.cursor + i)) = v
  others : ∀ q, (∀ i < vs.length, c.tileAt width (c.cursor + i) = bt.index → c.placeAt (c.cursor + i) ≠ q) →
    tileGet bt'.samples q = tileGet bt.samples q

/-- One more sample placed in a tile, at a place none of the ones before it has. -/
theorem Filled.snoc {width : Nat} {vs : List Sample} {v : Sample} {bt bt' : BandTile} (h : Filled c width vs bt bt')
    (hnew : ∀ i < vs.length, c.tileAt width (c.cursor + i) = c.tileAt width (c.cursor + vs.length) →
      c.placeAt (c.cursor + i) ≠ c.placeAt (c.cursor + vs.length)) :
    Filled c width (vs ++ [v]) bt (if bt'.index = c.tileAt width (c.cursor + vs.length) then
      { bt' with samples := tilePut bt'.samples (c.placeAt (c.cursor + vs.length)) v, taken := bt'.taken + 1 } else bt') := by
  obtain ⟨hframe, hform, hplaced, hothers⟩ := h
  have hindex : bt'.index = bt.index := by rw [hframe]
  have htaken : bt'.taken = bt.taken + (List.range vs.length).countP (fun i => c.tileAt width (c.cursor + i) == bt.index) := by
    rw [hframe]
  have hlast (i : Nat) (hi : i < (vs ++ [v]).length) : i < vs.length ∨ i = vs.length := by
    rw [List.length_append, List.length_singleton] at hi; omega
  have hcount : (List.range (vs ++ [v]).length).countP (fun i => c.tileAt width (c.cursor + i) == bt.index) =
      (List.range vs.length).countP (fun i => c.tileAt width (c.cursor + i) == bt.index) +
        if c.tileAt width (c.cursor + vs.length) = bt.index then 1 else 0 := by
    rw [List.length_append, List.length_singleton, List.range_succ, List.countP_append]
    simp [List.countP_cons]
  by_cases hin : bt'.index = c.tileAt width (c.cursor + vs.length)
  · have hhere : c.tileAt width (c.cursor + vs.length) = bt.index := by rw [← hin, hindex]
    rw [if_pos hin]
    refine ⟨?_, tileWf_tilePut hform (placeAt_lt _) v, fun i u hi ht hu => ?_, fun q hq => ?_⟩
    · rw [hcount, if_pos hhere, ← Nat.add_assoc, ← htaken, hframe]
    · rcases hlast i hi with hlt | rfl
      · rw [tileGet_tilePut_other hform _ (hnew i hlt (ht.trans hhere.symm))]
        exact hplaced i u hlt ht (by rwa [List.getElem?_append_left hlt] at hu)
      · obtain rfl : v = u := by simpa using hu
        exact tileGet_tilePut_same hform _ _
    · rw [tileGet_tilePut_other hform _ (Ne.symm (hq vs.length (by simp) hhere))]
      exact hothers q fun i hi => hq i (by simp; omega)
  · have hhere : c.tileAt width (c.cursor + vs.length) ≠ bt.index := by rw [← hindex]; exact Ne.symm hin
    rw [if_neg hin]
    refine ⟨by rw [hcount, if_neg hhere, Nat.add_zero]; exact hframe, hform, fun i u hi ht hu => ?_, fun q hq => ?_⟩
    · rcases hlast i hi with hlt | rfl
      · exact hplaced i u hlt ht (by rwa [List.getElem?_append_left hlt] at hu)
      · exact absurd ht hhere
    · exact hothers q fun i hi => hq i (by simp; omega)

/-- Samples placed one after another: the cursor moves, and each tile of the band takes its own. -/
theorem placeSamples_effect {width : Nat} {vs : List Sample} (hwf : ∀ bt ∈ c.tiles, tileWf bt.samples = true)
    (hnew : ∀ i j, i < j → j < vs.length → c.tileAt width (c.cursor + i) = c.tileAt width (c.cursor + j) →
      c.placeAt (c.cursor + i) ≠ c.placeAt (c.cursor + j)) :
    let u := vs.foldl (StoreCtx.placeSample width) c
    u = { c with cursor := c.cursor + vs.length, tiles := u.tiles } ∧ u.tiles.length = c.tiles.length ∧
      ∀ (j : Nat) (bt : BandTile), c.tiles[j]? = some bt → ∃ bt', u.tiles[j]? = some bt' ∧ Filled c width vs bt bt' := by
  induction vs using List.reverseRecOn with
  | nil =>
    exact ⟨rfl, rfl, fun j bt hj => ⟨bt, hj, by simp, hwf bt (List.mem_of_getElem? hj), by simp, fun _ _ => rfl⟩⟩
  | append_singleton vs v ih =>
    obtain ⟨hframe, hlen, htiles⟩ := ih fun i j hij hj => hnew i j hij (by simp; omega)
    rw [List.foldl_append, List.foldl_cons, List.foldl_nil, placeSample_eq]
    generalize vs.foldl (StoreCtx.placeSample width) c = u at *
    have hcursor : u.cursor = c.cursor + vs.length := by rw [hframe]
    have htile (i : Nat) : u.tileAt width i = c.tileAt width i ∧ u.placeAt i = c.placeAt i := by rw [hframe]; exact ⟨rfl, rfl⟩
    refine ⟨?_, by simp [hlen], fun j bt hj => ?_⟩
    · rw [hcursor, List.length_append, List.length_singleton, ← Nat.add_assoc]
      have hmoved (ts : List BandTile) : { u with cursor := c.cursor + vs.length + 1, tiles := ts } =
          { c with cursor := c.cursor + vs.length + 1, tiles := ts } := by rw [hframe]
      exact hmoved _
    · obtain ⟨bt', hbt', hfill⟩ := htiles j bt hj
      refine ⟨_, by simp only [List.getElem?_map, hbt', Option.map_some]; rfl, ?_⟩
      rw [(htile _).1, (htile _).2, hcursor]
      exact hfill.snoc fun i hi => hnew i vs.length hi (by simp)

/-! ## Taking samples from a data record -/

/-- The samples of a data record that have not been taken (R48, R54). -/
def StoreCtx.ready (c : StoreCtx) (words : List Word) : List Sample :=
  (words.flatMap (unpackWord c.packing)).drop (c.wordsTaken * perWord c.packing + c.packPhase)

/-- The number of samples that a data record gives up now. -/
def StoreCtx.taken (c : StoreCtx) (words : List Word) : Nat := min (c.bandEnd c.band - c.cursor) (c.ready words).length

/-- The samples a data record has given up altogether. -/
def StoreCtx.used (c : StoreCtx) (words : List Word) : Nat := c.wordsTaken * perWord c.packing + c.packPhase + c.taken words

/-- What taking from a record comes to: the samples placed, and the counters of the record (R54, R59). -/
theorem takeRecord_eq (width : Nat) (words : List Word) : c.takeRecord width words =
    (let u : StoreCtx := { ((c.ready words).take (c.bandEnd c.band - c.cursor)).foldl (StoreCtx.placeSample width) c with
      wordsTaken := c.used words / perWord c.packing, packPhase := c.used words % perWord c.packing
      bandPhase := if c.bandEnd c.band - c.cursor ≤ (c.ready words).length then .write else .fill }
    if u.cursor = c.count then
      ({ u with overrun := decide ((c.used words + perWord c.packing - 1) / perWord c.packing < words.length)
                wordsTaken := 0, packPhase := 0 }, true)
    else if words.length ≤ c.used words / perWord c.packing then ({ u with wordsTaken := 0, packPhase := 0 }, true)
    else (u, false)) := rfl

section Window

variable {width : Nat} (hx : c.x0 ≤ c.x1) (hy : c.y0 ≤ c.y1) (hc : c.count = (c.x1 - c.x0 + 1) * (c.y1 - c.y0 + 1))
include hx hy hc

/-- Two samples of the stream have not the same place in the same tile. -/
theorem placeAt_ne {i j : Nat} (hwidth : c.x1 < width * 128) (hi : i < c.count) (hj : j < c.count) (hij : i ≠ j)
    (ht : c.tileAt width i = c.tileAt width j) : c.placeAt i ≠ c.placeAt j := by
  intro hp
  obtain ⟨-, hxi, -, -⟩ := position_holds hx hy hc hi
  obtain ⟨-, hxj, -, -⟩ := position_holds hx hy hc hj
  unfold StoreCtx.tileAt at ht
  unfold StoreCtx.placeAt at hp
  have hci : (c.position i).1 / 128 < width := by omega
  have hcj : (c.position j).1 / 128 < width := by omega
  have hcol : (c.position i).1 / 128 = (c.position j).1 / 128 := by
    have h := congrArg (· % width) ht
    simpa [Nat.mul_add_mod', Nat.mod_eq_of_lt hci, Nat.mod_eq_of_lt hcj] using h
  have hrow : (c.position i).2 / 128 = (c.position j).2 / 128 := by
    rw [hcol] at ht
    exact Nat.eq_of_mul_eq_mul_right (by omega) (Nat.add_right_cancel ht)
  exact hij (position_inj hx hy hc hi hj (Prod.ext (by omega) (by omega)))

/-- What BAND_FILL takes from a data record (R54). -/
theorem takeRecord_effect (words : List Word) (hwidth : c.x1 < width * 128) (hwf : ∀ bt ∈ c.tiles, tileWf bt.samples = true) :
    let per := perWord c.packing
    let k := c.taken words
    let t := (c.takeRecord width words).1
    let done := (c.takeRecord width words).2
    t = { c with cursor := c.cursor + k, tiles := t.tiles, wordsTaken := t.wordsTaken, packPhase := t.packPhase, overrun := t.overrun
                 bandPhase := if c.bandEnd c.band - c.cursor ≤ (c.ready words).length then .write else .fill } ∧
      (c.cursor + k = c.count → done = true ∧ t.wordsTaken = 0 ∧ t.packPhase = 0 ∧
        t.overrun = decide ((c.used words + per - 1) / per < words.length)) ∧
      (c.cursor + k ≠ c.count → t.overrun = c.overrun ∧
        (words.length ≤ c.used words / per → done = true ∧ t.wordsTaken = 0 ∧ t.packPhase = 0) ∧
        (c.used words / per < words.length → done = false ∧ t.wordsTaken = c.used words / per ∧
          t.packPhase = c.used words % per)) ∧
      t.tiles.length = c.tiles.length ∧
      ∀ (j : Nat) (bt : BandTile), c.tiles[j]? = some bt → ∃ bt', t.tiles[j]? = some bt' ∧
        Filled c width ((c.ready words).take (c.bandEnd c.band - c.cursor)) bt bt' := by
  have hk : ((c.ready words).take (c.bandEnd c.band - c.cursor)).length = c.taken words := List.length_take
  have hle : c.cursor + c.taken words ≤ max c.cursor c.count := by
    have hend := bandEnd_le hx hy hc c.band
    unfold StoreCtx.taken
    omega
  obtain ⟨hframe, hlen, htiles⟩ := placeSamples_effect (c := c) (width := width)
    (vs := (c.ready words).take (c.bandEnd c.band - c.cursor)) hwf fun i j hij hj ht =>
      placeAt_ne hx hy hc hwidth (by omega) (by omega) (by omega) ht
  rw [hk] at hframe
  dsimp only
  rw [takeRecord_eq]
  generalize ((c.ready words).take (c.bandEnd c.band - c.cursor)).foldl (StoreCtx.placeSample width) c = u at *
  have hcursor : u.cursor = c.cursor + c.taken words := by rw [hframe]
  have hover : u.overrun = c.overrun := by rw [hframe]
  dsimp only
  rw [hcursor]
  have hfix (ts : List BandTile) (wt pp : Nat) (ov : Bool) (bp : StorePhase) :
      ({ u with cursor := c.cursor + c.taken words, tiles := ts, wordsTaken := wt, packPhase := pp, overrun := ov, bandPhase := bp } : StoreCtx) =
        { c with cursor := c.cursor + c.taken words, tiles := ts, wordsTaken := wt, packPhase := pp, overrun := ov, bandPhase := bp } := by
    rw [hframe]
  split
  · next hend => exact ⟨hfix _ _ _ _ _, fun _ => ⟨rfl, rfl, rfl, rfl⟩, fun h => absurd hend h, hlen, htiles⟩
  · next hend =>
    split
    · next hall =>
      exact ⟨hfix _ _ _ _ _, fun h => absurd h hend, fun _ => ⟨hover, fun _ => ⟨rfl, rfl, rfl⟩, fun h => absurd hall (Nat.not_le.mpr h)⟩,
        hlen, htiles⟩
    · next hall =>
      exact ⟨hfix _ _ _ _ _, fun h => absurd h hend, fun _ => ⟨hover, fun h => absurd h hall, fun _ => ⟨rfl, rfl, rfl⟩⟩, hlen, htiles⟩

end Window

/-- BAND_FILL with a record at the head of the input queue: a data record gives up its samples, another ends the store SHORT. -/
theorem advance_fill {r : InRecord} {rest : List InRecord} (hr : s.portA.restart = .none) (ho : s.portA.op = .store c)
    (hph : c.bandPhase = .fill) (hq : s.portA.inq = r :: rest) : advance .a s =
      if headerIsData r.header then
        some (s.modPort .a fun e => { e with
          op := .store (c.takeRecord (objectWidth s c.object) r.payload).1
          inq := if (c.takeRecord (objectWidth s c.object) r.payload).2 then rest else e.inq })
      else some (s.setOp .a (.store (c.endNow .short))) := by
  have hr' : (s.port .a).restart = .none := hr
  have ho' : (s.port .a).op = .store c := ho
  simp only [advance, hr', ho', ne_eq, not_true_eq_false, if_false, advanceStore, hph, hq]

/-- Settles O20: the start by `exec_putWindow_accepted`, the stream by the lemmas on `StoreCtx.position`, BAND_FILL by
`takeRecord_effect` and `advance_fill`. -/
theorem putWindowStartsStore : Obligations.PutWindowStartsStore := by
  refine ⟨fun tag object x0 x1 y0 y1 axis mirror packing ax mi pk o e s hs hax hmi hpk hobj ho he hmay hx hx1 hy hy1 => ?_,
    fun c hx hy hc => ⟨fun line k hk => ?_, fun i hi => position_holds hx hy hc hi, fun x y h1 h2 h3 h4 => ?_,
    fun width words hwidth hwf => ?_, fun s r rest hr ho hph hq => ⟨fun o hd hf => ?_, fun hd => ?_⟩⟩⟩
  · refine ⟨_, exec_putWindow_accepted hs hax hmi hpk hobj ho he hmay (windowFits_iff.mpr ⟨hx, hx1, hy, hy1⟩), rfl, rfl, rfl, rfl, rfl,
      rfl, rfl, rfl, rfl, rfl, rfl, rfl, rfl, rfl, rfl, rfl, rfl, ?_, ?_⟩
    · cases ax <;> rfl
    · cases ax <;> exact List.map_congr_left fun tile _ => by simp only [StoreCtx.bufferTile, covers_eq]
  · cases hax : c.axis <;> cases hm : c.mirror <;> simp only [hax] at hk ⊢ <;>
      (have h := position_line (c := c) (line := line) (k := k) (by simpa only [StoreCtx.lineLength, hax] using hk)
       simpa [StoreCtx.lineLength, StoreCtx.place, hax, hm] using h)
  · obtain ⟨i, hi, hp⟩ := position_surj hc (x := x) (y := y) ⟨h1, h2, h3, h4⟩
    exact ⟨i, hi, hp, fun j hj hpj => position_inj hx hy hc hj hi (hpj.trans hp.symm)⟩
  · obtain ⟨hframe, hend, hmore, hlen, htiles⟩ := takeRecord_effect hx hy hc words hwidth hwf
    intro per start ready k used tile place t done
    have hper : perWord c.packing = per := by dsimp only [per]; cases c.packing <;> rfl
    have hready : c.ready words = ready := by
      dsimp only [StoreCtx.ready, ready, start]
      rw [hper]
      cases c.packing <;> rfl
    have hk : c.taken words = k := by dsimp only [StoreCtx.taken, k]; rw [hready]
    have hused : c.used words = used := by dsimp only [StoreCtx.used, used, start]; rw [hk, hper]
    rw [hper] at hend hmore
    rw [hk] at hframe hend hmore
    rw [hused] at hend hmore
    rw [hready] at hframe htiles
    have hlength : (ready.take (c.bandEnd c.band - c.cursor)).length = k := List.length_take
    refine ⟨hframe, hend, hmore, hlen, fun j bt hj => ?_⟩
    obtain ⟨bt', hbt', ⟨hbtframe, -, hplaced, hothers⟩⟩ := htiles j bt hj
    rw [hlength] at hbtframe hplaced hothers
    refine ⟨bt', hbt', hbtframe, fun i v hi ht hv => hplaced i v hi ht ?_, hothers⟩
    rw [List.getElem?_take_of_lt (lt_of_lt_of_le hi (Nat.min_le_left _ _))]
    exact hv
  · rw [advance_fill hr ho hph hq, if_pos hd, objectWidth, hf]
    rw [State.modPort, State.port]
    dsimp only
    rw [hq]
    rfl
  · rw [advance_fill hr ho hph hq, if_neg (by simp [hd])]
    simp only [StoreCtx.endNow, hph, if_true]
    rfl

end Sys2Proof.Machine
end

section
/-!
PROOF. The rows of the burst ends, the bank they change and the timer: O45 and O46.
-/

namespace Sys2Proof.Machine

open Sys2Proof

variable {s t u : State} {p q : Port} {b : Burst}

/-! ## The row of each burst end -/

theorem exec_prepProbeComplete (ending : ProbeEnd) (hb : s.burst = some b) (hw : b.work = .prepProbe) :
    exec (.prepProbeComplete ending) s = .next (endProbe (prepProbeTaken (bankOf b.slot) (ProbeEnd.isSuccess ending)) s) := by
  obtain ⟨work, slot, retry, timer, content⟩ := b
  subst hw
  simp [exec, execPrepProbeComplete, hb]

theorem exec_prepMarkerReadComplete (ending : ReadEnd) (hb : s.burst = some b) (hw : b.work = .prepMarker) :
    exec (.prepMarkerReadComplete ending) s = .next (endRead b ending (fun _ => prepMarkerTaken ending) s) := by
  obtain ⟨work, slot, retry, timer, content⟩ := b
  subst hw
  simp [exec, execPrepMarkerReadComplete, hb]

theorem exec_formatWriteComplete (ending : WriteEnd) (hb : s.burst = some b) (hw : b.work = .prepFormat) :
    exec (.formatWriteComplete ending) s =
      .next (endWrite b (WriteEnd.isDone ending) (prepFormatTaken b.slot (WriteEnd.isDone ending)) s) := by
  obtain ⟨work, slot, retry, timer, content⟩ := b
  subst hw
  simp [exec, execFormatWriteComplete, hb]

theorem exec_loadReadComplete (ending : ReadEnd) (hb : s.burst = some b) (hw : b.work = .prepLoad) :
    exec (.loadReadComplete ending) s = .next (endRead b ending (fun _ => prepLoadTaken b.slot ending) s) := by
  obtain ⟨work, slot, retry, timer, content⟩ := b
  subst hw
  simp [exec, execLoadReadComplete, hb]

theorem exec_readMergeComplete {i : Nat} (ending : ReadEnd) (hb : s.burst = some b) (hw : b.work = .storeRead i) :
    exec (.readMergeComplete ending) s = .next (endRead b ending (storeReadTaken i b.slot) s) := by
  obtain ⟨work, slot, retry, timer, content⟩ := b
  subst hw
  simp [exec, execReadMergeComplete, hb]

theorem exec_storeWriteComplete {i : Nat} (ending : WriteEnd) (hb : s.burst = some b) (hw : b.work = .storeWrite i) :
    exec (.storeWriteComplete ending) s =
      .next (endWrite b (WriteEnd.isDone ending) (storeWriteTaken i b.slot (WriteEnd.isDone ending)) s) := by
  obtain ⟨work, slot, retry, timer, content⟩ := b
  subst hw
  simp [exec, execStoreWriteComplete, hb]

theorem exec_renderReadComplete (ending : ReadEnd) (hb : s.burst = some b) (hw : b.work = .renderRead p) :
    exec (.renderReadComplete p ending) s = .next (endRead b ending (renderReadTaken p b.slot) s) := by
  obtain ⟨work, slot, retry, timer, content⟩ := b
  subst hw
  simp [exec, execRenderReadComplete, hb]

theorem exec_probeComplete (ending : ProbeEnd) (hb : s.burst = some b) (hw : b.work = .probe) :
    exec (.probeComplete ending) s = .next (endProbe (probeTaken (bankOf b.slot) (ProbeEnd.isSuccess ending)) s) := by
  obtain ⟨work, slot, retry, timer, content⟩ := b
  subst hw
  simp [exec, execProbeComplete, hb]

theorem exec_scrubVisitComplete {g : BitVec 8} {noCopy : Bool} (ending : ReadEnd) (hb : s.burst = some b) (hw : b.work = .scrub g noCopy) :
    exec (.scrubVisitComplete ending) s = .next (endRead b ending (scrubTaken b.slot g noCopy) s) := by
  obtain ⟨work, slot, retry, timer, content⟩ := b
  subst hw
  simp [exec, execScrubVisitComplete, hb]

theorem exec_writebackComplete {kept : Nat} {dropped : Bool} (ending : WriteEnd) (hb : s.burst = some b)
    (hw : b.work = .writeback kept dropped) : exec (.writebackComplete ending) s =
      .next (endWrite b (WriteEnd.isDone ending) (writebackTaken b.slot kept dropped (WriteEnd.isDone ending)) s) := by
  obtain ⟨work, slot, retry, timer, content⟩ := b
  subst hw
  simp [exec, execWritebackComplete, hb]

theorem exec_relocationReadComplete {target : Nat} {g : BitVec 8} {dropped noCopy : Bool} (ending : ReadEnd) (hb : s.burst = some b)
    (hw : b.work = .relocationRead target g dropped noCopy) :
    exec (.relocationReadComplete ending) s = .next (endRead b ending (relocationReadTaken b.slot target g dropped noCopy) s) := by
  obtain ⟨work, slot, retry, timer, content⟩ := b
  subst hw
  simp [exec, execRelocationReadComplete, hb]

theorem exec_relocationWriteComplete {old : Nat} {dropped : Bool} (ending : WriteEnd) (hb : s.burst = some b)
    (hw : b.work = .relocationWrite old dropped) : exec (.relocationWriteComplete ending) s =
      .next (endWrite b (WriteEnd.isDone ending) (relocationWriteTaken old b.slot dropped (WriteEnd.isDone ending)) s) := by
  obtain ⟨work, slot, retry, timer, content⟩ := b
  subst hw
  simp [exec, execRelocationWriteComplete, hb]

theorem exec_catalogueFlushComplete (ending : WriteEnd) (hb : s.burst = some b) (hw : b.work = .catalogueFlush) :
    exec (.catalogueFlushComplete ending) s =
      .next (endWrite b (WriteEnd.isDone ending) (catalogueFlushTaken b.slot (WriteEnd.isDone ending)) s) := by
  obtain ⟨work, slot, retry, timer, content⟩ := b
  subst hw
  simp [exec, execCatalogueFlushComplete, hb]

theorem exec_billingFlushComplete (ending : WriteEnd) (hb : s.burst = some b) (hw : b.work = .billingFlush) :
    exec (.billingFlushComplete ending) s =
      .next (endWrite b (WriteEnd.isDone ending) (billingFlushTaken (WriteEnd.isDone ending)) s) := by
  obtain ⟨work, slot, retry, timer, content⟩ := b
  subst hw
  simp [exec, execBillingFlushComplete, hb]

theorem exec_carriedWriteBurstEnd {suspect : Bool} (ending : WriteEnd) (hb : s.burst = some b) (hw : b.work = .carried suspect) :
    exec (.carriedWriteBurstEnd ending) s = .next (endCarried b (WriteEnd.isDone ending) s) := by
  obtain ⟨work, slot, retry, timer, content⟩ := b
  subst hw
  simp [exec, execCarriedWriteBurstEnd, hb]

/-! ## What a change of a bank's state does to the ports -/

/-- The ports of `t` are those of `s` but for the records placed in the response queues and the BANK_STATE marks. -/
def OnlyNotices (s t : State) : Prop :=
  ∀ q, t.port q = { s.port q with outq := (t.port q).outq, bankMark := (t.port q).bankMark }

theorem OnlyNotices.refl (s : State) : OnlyNotices s s := fun _ => rfl

theorem OnlyNotices.of_ports (ha : t.portA = s.portA) (hb : t.portB = s.portB) : OnlyNotices s t := fun q => by
  cases q
  · rw [State.port, State.port, ha]
  · rw [State.port, State.port, hb]

theorem OnlyNotices.trans (h : OnlyNotices s t) (k : OnlyNotices t u) : OnlyNotices s u := fun q => by rw [k q, h q]

theorem OnlyNotices.op (h : OnlyNotices s t) (q : Port) : (t.port q).op = (s.port q).op := by rw [h q]

theorem OnlyNotices.inq (h : OnlyNotices s t) (q : Port) : (t.port q).inq = (s.port q).inq := by rw [h q]

theorem OnlyNotices.restart (h : OnlyNotices s t) (q : Port) : (t.port q).restart = (s.port q).restart := by rw [h q]

theorem OnlyNotices.snapshot (h : OnlyNotices s t) (q : Port) : (t.port q).snapshot = (s.port q).snapshot := by rw [h q]

theorem onlyNotices_raiseBank (n : Nat) (p : Port) (s : State) : OnlyNotices s (raiseBank n p s) := fun q => by
  rcases raiseBank_cases n p s with h | h <;> rw [h] <;> cases p <;> cases q <;> rfl

theorem bankCrossed_port (n : Nat) (s : State) (q : Port) : (bankCrossed n s).port q = s.port q := by
  obtain ⟨_, _, _, _, _, h⟩ := bankCrossed_frame n s
  rw [h]
  cases q <;> rfl

/-- A bank's state that changes: the notices, and the recount where it goes into or out of OFFLINE. -/
theorem setBank_of_ne {n : Nat} {st : BankState} (h : s.banks.getD n .online ≠ st) : setBank n st s =
    if (s.banks.getD n .online == .offline) != (st == .offline) then
      bankCrossed n (raiseBank n .b (raiseBank n .a { s with banks := s.banks.set n st }))
    else raiseBank n .b (raiseBank n .a { s with banks := s.banks.set n st }) := by
  simp only [setBank, h, if_false]

theorem setBank_of_eq {n : Nat} {st : BankState} (h : s.banks.getD n .online = st) : setBank n st s = s := by
  simp only [setBank, h, if_true]

theorem onlyNotices_setBank (n : Nat) (st : BankState) (s : State) : OnlyNotices s (setBank n st s) := by
  by_cases h : s.banks.getD n .online = st
  · rw [setBank_of_eq h]; exact .refl s
  · have hraised : OnlyNotices s (raiseBank n .b (raiseBank n .a { s with banks := s.banks.set n st })) :=
      (OnlyNotices.of_ports (t := { s with banks := s.banks.set n st }) rfl rfl).trans
        ((onlyNotices_raiseBank n .a _).trans (onlyNotices_raiseBank n .b _))
    rw [setBank_of_ne h]
    split
    · exact hraised.trans fun q => by rw [bankCrossed_port]
    · exact hraised

/-- A bank that is not OFFLINE becomes SUSPECT: no count changes. -/
theorem setBank_suspect_frame {n : Nat} (h : bankOffline s n = false) : setBank n .suspect s =
    { s with banks := s.banks.set n .suspect, portA := (setBank n .suspect s).portA, portB := (setBank n .suspect s).portB } := by
  have hoff : (s.banks.getD n .online == .offline) = false := h
  by_cases hs : s.banks.getD n .online = .suspect
  · obtain ⟨_, _, _, _, _, _, _, hframe⟩ := setBank_frame n .suspect s
    have hset := setBank_banks n .suspect s
    rw [setBank_of_eq hs] at hset ⊢
    rw [← hset]
  · rw [setBank_of_ne hs, hoff]
    rw [if_neg (by decide)]
    exact (raiseBank_frame n .b _).trans (by rw [raiseBank_frame n .a])

theorem bankOffline_set_suspect {n m : Nat} (h : bankOffline s n = false) (ht : t.banks = s.banks.set n .suspect) :
    bankOffline t m = bankOffline s m := by
  rw [bankOffline, bankOffline, ht]
  by_cases hm : m = n
  · subst hm
    by_cases hlt : m < s.banks.length
    · have hleft : ((s.banks.set m .suspect).getD m .online == .offline) = false := by
        rw [List.getD_eq_getElem _ _ (by simpa using hlt), List.getElem_set_self]; rfl
      rw [hleft]; exact h.symm
    · rw [List.set_eq_of_length_le (Nat.not_lt.mp hlt)]
  · rw [List.getD_eq_getElem?_getD, List.getElem?_set_ne (Ne.symm hm), ← List.getD_eq_getElem?_getD]

/-! ## What the ends of bursts leave -/

/-- A change from `s` to `t` that leaves the banks, the burst and the medium. -/
structure Still (s t : State) : Prop where
  banks : t.banks = s.banks
  burst : t.burst = s.burst
  medium : t.medium = s.medium

theorem Still.refl (s : State) : Still s s := ⟨rfl, rfl, rfl⟩

theorem Still.trans (h : Still s t) (k : Still t u) : Still s u :=
  ⟨k.banks.trans h.banks, k.burst.trans h.burst, k.medium.trans h.medium⟩

theorem still_modPort (f : PortEngine → PortEngine) : Still s (s.modPort p f) := by cases p <;> exact ⟨rfl, rfl, rfl⟩

theorem still_setOp (o : Op) : Still s (s.setOp p o) := still_modPort _

theorem still_respond (r : Response) (k : Option EditionKey) (store : Bool) : Still s (respond p r k store s) := still_setOp _

theorem still_recordDamage (n : Nat) : Still s (recordDamage n s) := by rw [recordDamage_frame]; exact ⟨rfl, rfl, rfl⟩

theorem still_masterDamage (n : Nat) (r : ReadResult) : Still s (masterDamage n r s) := by
  unfold masterDamage
  split
  · exact still_recordDamage n
  · exact .refl s

theorem still_returnTarget (n : Nat) : Still s (returnTarget n s) := ⟨rfl, rfl, rfl⟩

theorem still_joinRelocations (n : Nat) : Still s (joinRelocations n s) := by rw [joinRelocations_frame]; exact ⟨rfl, rfl, rfl⟩

theorem still_leaveRelocations (n : Nat) : Still s (leaveRelocations n s) := by rw [leaveRelocations_frame]; exact ⟨rfl, rfl, rfl⟩

theorem still_setSlot (n : Nat) (e : SlotEntry) : Still s (s.setSlot n e) := ⟨rfl, rfl, rfl⟩

theorem still_markDirty (g : Nat) : Still s (markDirty g s) := ⟨rfl, rfl, rfl⟩

theorem still_modObject (n : Nat) (f : ObjectRec → ObjectRec) : Still s (s.modObject n f) := ⟨rfl, rfl, rfl⟩

theorem still_recountObject (n : Nat) : Still s (recountObject n s) := ⟨rfl, rfl, rfl⟩

theorem still_retireSlot (n : Nat) : Still s (retireSlot n s) := ⟨rfl, rfl, rfl⟩

theorem still_storeFaulted (c : StoreCtx) : Still s (storeFaulted c s) := by
  unfold storeFaulted
  exact (still_modPort (p := .a) _).trans (still_respond _ _ _)

theorem still_storeReadTaken (i n : Nat) (d : Delivery) : Still s (storeReadTaken i n d s) := by
  unfold storeReadTaken
  split
  · split
    · split
      · exact still_storeFaulted _
      · exact .refl s
    · exact (still_masterDamage n _).trans (still_setOp _)
  · exact .refl s

theorem Still.ite {c : Prop} [Decidable c] (h : Still s t) (k : Still t u) : Still s (if c then u else t) := by
  split
  · exact h.trans k
  · exact h

theorem still_storeWriteEffect (object index slot : Nat) (whole : Bool) : Still s (storeWriteEffect object index slot whole s) := by
  unfold storeWriteEffect
  exact ((still_setSlot slot _).ite ((still_modObject object _).trans (still_markDirty _))).ite
    ((still_markDirty _).trans (still_recountObject object))

theorem still_storeWriteTaken (i n : Nat) (done : Bool) : Still s (storeWriteTaken i n done s) := by
  unfold storeWriteTaken
  split
  · split
    · split
      · exact .refl s
      · exact (still_storeWriteEffect _ _ _ _).trans (still_setOp _)
    · split
      · exact still_storeFaulted _
      · exact .refl s
  · exact .refl s

theorem still_renderReadTaken (n : Nat) (d : Delivery) : Still s (renderReadTaken p n d s) := by
  unfold renderReadTaken
  split
  · exact .refl s
  · split
    · exact .refl s
    · split
      · exact .refl s
      · exact (still_masterDamage n _).trans (still_setOp _)

theorem still_writebackTaken (n kept : Nat) (dropped done : Bool) : Still s (writebackTaken n kept dropped done s) := by
  unfold writebackTaken
  split
  · exact .refl s
  · exact (show Still s (markDirty (markGroup n) (s.setSlot n _)) from ⟨rfl, rfl, rfl⟩).trans (still_joinRelocations n)

theorem still_switchTile (old target object index : Nat) : Still s (switchTile old target object index s) := by
  unfold switchTile
  exact (((((still_setSlot target _).trans (still_modObject object _)).trans (still_leaveRelocations old)).trans
    (still_retireSlot old)).trans (still_recountObject object)).trans ((still_markDirty _).trans (still_markDirty _))

theorem still_relocationWriteTaken (old target : Nat) (dropped done : Bool) :
    Still s (relocationWriteTaken old target dropped done s) := by
  unfold relocationWriteTaken
  split
  · exact still_returnTarget _
  · split
    · exact still_switchTile _ _ _ _
    · exact still_returnTarget _

theorem still_catalogueFlushTaken (g : Nat) (done : Bool) : Still s (catalogueFlushTaken g done s) := by
  unfold catalogueFlushTaken
  split <;> exact ⟨rfl, rfl, rfl⟩

theorem still_flushedWait : Still s (flushedWait p s) := by
  unfold flushedWait
  split
  · exact still_respond _ _ _
  · split
    · exact still_setOp _
    · exact still_respond _ _ _
    all_goals exact .refl s
  · exact .refl s

theorem still_unflushedWait : Still s (unflushedWait p s) := by
  unfold unflushedWait
  split
  · exact still_setOp _
  · split
    · exact still_setOp _
    · exact still_setOp _
    all_goals exact .refl s
  · exact .refl s

theorem still_billingFlushTaken (done : Bool) : Still s (billingFlushTaken done s) := by
  unfold billingFlushTaken
  split
  · exact still_flushedWait.trans still_flushedWait
  · exact (still_unflushedWait.trans still_unflushedWait).trans ⟨rfl, rfl, rfl⟩

theorem still_raiseDevice : Still s (raiseDevice p s) := by rw [raiseDevice_frame]; exact ⟨rfl, rfl, rfl⟩

theorem still_enterState (d : DeviceState) : Still s (enterState d s) :=
  (show Still s { s with
      device := d
      upkeep := { s.upkeep with timerRunning := d == .ready && scrubMode s.strap != .strobeOnly, timer := 0 } } from
    ⟨rfl, rfl, rfl⟩).trans (still_raiseDevice.trans still_raiseDevice)

theorem still_fail : Still s (fail s) := (show Still s { s with prep := .finished } from ⟨rfl, rfl, rfl⟩).trans (still_enterState _)

theorem still_spendRead (r : ReadEnd) : Still s (spendRead r s) := by
  unfold spendRead
  split
  · split <;> exact ⟨rfl, rfl, rfl⟩
  · exact .refl s

/-! ## The state at the end of a burst -/

/-- The state in which a requester takes its write: the burst over, the content written, the bank changed. -/
def writeEnded (b : Burst) (done : Bool) (s : State) : State := bankAfter b done (contentAfter b done (emptyWritten b (burstOver s)))

/-- The state in which a requester takes its read. -/
def readEnded (b : Burst) (done : Bool) (s : State) : State := bankAfter b done (burstOver s)

theorem endWrite_eq (b : Burst) (done : Bool) (take : State → State) (s : State) :
    endWrite b done take s = settle (take (writeEnded b done s)) := rfl

theorem endRead_eq (b : Burst) (r : ReadEnd) (take : Delivery → State → State) (s : State) :
    endRead b r take s = settle (spendRead r (take (deliver s b.slot r) (readEnded b (ReadEnd.isDelivered r) s))) := rfl

theorem emptyWritten_frame (b : Burst) (s : State) : emptyWritten b s = { s with upkeep := (emptyWritten b s).upkeep } := by
  unfold emptyWritten
  split <;> rfl

theorem contentAfter_frame (b : Burst) (done : Bool) (s : State) :
    contentAfter b done s = { s with medium := (contentAfter b done s).medium, freeCount := (contentAfter b done s).freeCount } := by
  rcases contentAfter_cases b done s with ⟨-, e⟩ | ⟨c, -, -, e⟩ | ⟨c, -, -, e⟩ <;> rw [e]

theorem contentAfter_other (b : Burst) (done : Bool) (s : State) {n : Nat} (h : n ≠ b.slot) :
    mediumRead (contentAfter b done s).medium n = mediumRead s.medium n := by
  rcases contentAfter_cases b done s with ⟨-, e⟩ | ⟨c, -, -, e⟩ | ⟨c, -, -, e⟩ <;> rw [e]
  · exact mediumRead_write_other _ h
  · exact mediumRead_write_other _ h

theorem contentAfter_done {content : SlotContent} (hm : mediumWf s.medium = true) (hc : b.content = some content) :
    mediumRead (contentAfter b true s).medium b.slot = content := by
  rw [contentAfter, hc]
  exact mediumRead_write_same _ _ hm

theorem bankAfter_banks (b : Burst) (done : Bool) (s : State) : (bankAfter b done s).banks =
    if done then (if b.retry then s.banks.set (b.slot / 16384) .suspect else s.banks) else s.banks.set (b.slot / 16384) .offline := by
  unfold bankAfter
  split
  · split
    · exact setBank_banks _ _ _
    · rfl
  · exact setBank_banks _ _ _

theorem setBank_burst (n : Nat) (st : BankState) (s : State) : (setBank n st s).burst = s.burst := by
  obtain ⟨_, _, _, _, _, _, _, h⟩ := setBank_frame n st s
  rw [h]

theorem bankAfter_burst (b : Burst) (done : Bool) (s : State) : (bankAfter b done s).burst = s.burst := by
  unfold bankAfter
  split
  · split
    · exact setBank_burst _ _ _
    · rfl
  · exact setBank_burst _ _ _

theorem bankAfter_medium (b : Burst) (done : Bool) (s : State) : (bankAfter b done s).medium = s.medium :=
  (keeps_bankAfter b done).medium

theorem writeEnded_burst (b : Burst) (done : Bool) (s : State) : (writeEnded b done s).burst = none := by
  rw [writeEnded, bankAfter_burst, contentAfter_frame, emptyWritten_frame]; rfl

theorem readEnded_burst (b : Burst) (done : Bool) (s : State) : (readEnded b done s).burst = none := by
  rw [readEnded, bankAfter_burst]; rfl

theorem writeEnded_banks (b : Burst) (done : Bool) (s : State) : (writeEnded b done s).banks =
    if done then (if b.retry then s.banks.set (b.slot / 16384) .suspect else s.banks) else s.banks.set (b.slot / 16384) .offline := by
  rw [writeEnded, bankAfter_banks, contentAfter_frame, emptyWritten_frame]; rfl

theorem readEnded_banks (b : Burst) (done : Bool) (s : State) : (readEnded b done s).banks =
    if done then (if b.retry then s.banks.set (b.slot / 16384) .suspect else s.banks) else s.banks.set (b.slot / 16384) .offline := by
  rw [readEnded, bankAfter_banks]; rfl

theorem writeEnded_other (b : Burst) (done : Bool) (s : State) {n : Nat} (h : n ≠ b.slot) :
    mediumRead (writeEnded b done s).medium n = mediumRead s.medium n := by
  rw [writeEnded, bankAfter_medium, contentAfter_other b done _ h, emptyWritten_frame]; rfl

theorem writeEnded_done {content : SlotContent} (hm : mediumWf s.medium = true) (hc : b.content = some content) :
    mediumRead (writeEnded b true s).medium b.slot = content := by
  rw [writeEnded, bankAfter_medium, contentAfter_done _ hc]
  rw [emptyWritten_frame]
  exact hm

/-- Settles O46: each write row ends its burst by `writeEnded`, and what its requester does leaves medium, banks and burst. -/
theorem writeBurstEnds : Obligations.WriteBurstEnds := by
  intro c ending b content s hm hb hc hrow
  have ends {take : State → State} (hexec : exec c s = .next (endWrite b (WriteEnd.isDone ending) take s))
      (htake : Still (writeEnded b (WriteEnd.isDone ending) s) (take (writeEnded b (WriteEnd.isDone ending) s))) :
      ∃ t, exec c s = .next (settle t) ∧ t.burst = none ∧ (∀ n, n ≠ b.slot → mediumRead t.medium n = mediumRead s.medium n) ∧
        (ending = .done → mediumRead t.medium b.slot = content ∧
          t.banks = if b.retry then s.banks.set (b.slot / 16384) .suspect else s.banks) ∧
        (ending = .mediumFault → t.banks = s.banks.set (b.slot / 16384) .offline) := by
    rw [endWrite_eq] at hexec
    obtain ⟨hbanks, hburst, hmedium⟩ := htake
    refine ⟨_, hexec, hburst.trans (writeEnded_burst ..), fun n hn => by rw [hmedium, writeEnded_other _ _ _ hn], ?_, ?_⟩
    · rintro rfl
      exact ⟨by rw [hmedium]; exact writeEnded_done hm hc, by rw [hbanks, writeEnded_banks]; rfl⟩
    · rintro rfl
      rw [hbanks, writeEnded_banks]; rfl
  rcases hrow with ⟨rfl, i, hw⟩ | ⟨rfl, k, d, hw⟩ | ⟨rfl, o, d, hw⟩ | ⟨rfl, hw⟩ | ⟨rfl, hw⟩
  · exact ends (exec_storeWriteComplete ending hb hw) (still_storeWriteTaken ..)
  · exact ends (exec_writebackComplete ending hb hw) (still_writebackTaken ..)
  · exact ends (exec_relocationWriteComplete ending hb hw) (still_relocationWriteTaken ..)
  · exact ends (exec_catalogueFlushComplete ending hb hw) (still_catalogueFlushTaken ..)
  · exact ends (exec_billingFlushComplete ending hb hw) (still_billingFlushTaken _)

/-! ## The burst timer -/

theorem exec_burstTimeout (hb : s.burst = some b) :
    exec .burstTimeout s = .next (if retries b s then retryBurst b s else failBurst b s) := by
  simp [exec, execBurstTimeout, hb]

/-- A failed probe leaves its bank OFFLINE. -/
theorem prepProbeTaken_failed (n : Nat) : (prepProbeTaken n false s).banks = s.banks.set n .offline ∧ (prepProbeTaken n false s).burst = s.burst := by
  unfold prepProbeTaken
  simp only [Bool.false_eq_true, if_false, and_true]
  split
  · rw [still_fail.banks, still_fail.burst]
    exact ⟨setBank_banks _ _ _, setBank_burst _ _ _⟩
  · exact ⟨setBank_banks _ _ _, setBank_burst _ _ _⟩

theorem probeTaken_failed (n : Nat) : (probeTaken n false s).banks = s.banks.set n .offline ∧ (probeTaken n false s).burst = s.burst := by
  unfold probeTaken
  simp only [Bool.false_eq_true, if_false]
  split
  · rw [(still_respond _ _ _).banks, (still_respond _ _ _).burst]
    exact ⟨setBank_banks _ _ _, setBank_burst _ _ _⟩
  · exact ⟨setBank_banks _ _ _, setBank_burst _ _ _⟩

/-- A burst that has timed out for good is over, and its bank OFFLINE (R4). -/
theorem failBurst_effect (h : ∀ q, b.work ≠ .carried q) :
    ∃ t, failBurst b s = settle t ∧ t.burst = none ∧ t.banks = s.banks.set (b.slot / 16384) .offline := by
  have read {take : Delivery → State → State} (htake : ∀ d u, Still u (take d u)) :
      ∃ t, endRead b .mediumFault take s = settle t ∧ t.burst = none ∧ t.banks = s.banks.set (b.slot / 16384) .offline := by
    have hstill := (htake (deliver s b.slot .mediumFault) (readEnded b false s)).trans (still_spendRead .mediumFault)
    exact ⟨_, endRead_eq .., hstill.burst.trans (readEnded_burst ..), hstill.banks.trans (readEnded_banks ..)⟩
  have write {take : State → State} (htake : ∀ u, Still u (take u)) :
      ∃ t, endWrite b false take s = settle t ∧ t.burst = none ∧ t.banks = s.banks.set (b.slot / 16384) .offline :=
    ⟨_, endWrite_eq .., (htake _).burst.trans (writeEnded_burst ..), (htake _).banks.trans (writeEnded_banks ..)⟩
  unfold failBurst
  split
  · exact ⟨_, rfl, (prepProbeTaken_failed _).2, (prepProbeTaken_failed _).1⟩
  · exact read fun _ _ => still_fail
  · exact write fun _ => still_fail
  · exact read fun _ _ => still_fail
  · exact read fun _ _ => still_storeReadTaken ..
  · exact write fun _ => still_storeWriteTaken ..
  · exact read fun _ _ => still_renderReadTaken ..
  · exact ⟨_, rfl, (probeTaken_failed _).2, (probeTaken_failed _).1⟩
  · next g noCopy _ =>
    have htake (u : State) : scrubTaken b.slot g noCopy (deliver s b.slot .mediumFault) u = u := if_pos rfl
    refine ⟨_, endRead_eq .., ?_, ?_⟩ <;> rw [htake]
    · exact readEnded_burst ..
    · exact readEnded_banks ..
  · exact write fun _ => still_writebackTaken ..
  · next old target g dropped noCopy _ =>
    have htake (u : State) : relocationReadTaken b.slot target g dropped noCopy (deliver s b.slot .mediumFault) u = returnTarget target u := by
      simp only [relocationReadTaken, deliver, beq_self_eq_true, Bool.or_true, if_true]
    refine ⟨_, endRead_eq .., ?_, ?_⟩ <;> rw [htake]
    · exact readEnded_burst ..
    · exact readEnded_banks ..
  · exact write fun _ => still_relocationWriteTaken ..
  · exact write fun _ => still_catalogueFlushTaken ..
  · exact write fun _ => still_billingFlushTaken _
  · next q hq => exact absurd hq (h q)

theorem retries_iff : retries b s = true ↔ b.retry = false ∧ (b.work = .probe ∨ b.work = .prepProbe ∨
    (∃ q, b.work = .carried q ∧ q = false) ∨ ((∀ q, b.work ≠ .carried q) ∧ s.banks.getD (b.slot / 16384) .online = .online)) := by
  unfold retries bankOf
  cases b.work <;> simp

/-- Settles O45: `retries_iff` says when a burst starts again, and `failBurst_effect` what its failure leaves of the bank. -/
theorem burstTimeoutRetriesOnce : Obligations.BurstTimeoutRetriesOnce := by
  refine ⟨fun s hb => by simp [exec, execBurstTimeout, hb], fun b s hb => ⟨fun hr hw => ?_, fun hc hw => ?_⟩⟩
  · rw [exec_burstTimeout hb, if_pos (retries_iff.mpr ⟨hr, by tauto⟩)]
    rfl
  · have hno : ¬ retries b s = true := by
      rw [retries_iff]
      rintro ⟨hr, h | h | ⟨q, h, -⟩ | ⟨-, h⟩⟩
      · rcases hw with hw | hw
        · simp [hr] at hw
        · exact hw.1 h
      · rcases hw with hw | hw
        · simp [hr] at hw
        · exact hw.2.1 h
      · exact hc q h
      · rcases hw with hw | hw
        · simp [hr] at hw
        · exact hw.2.2 h
    obtain ⟨t, ht, hburst, hbanks⟩ := failBurst_effect (s := s) hc
    exact ⟨t, by rw [exec_burstTimeout hb, if_neg hno, ht], hburst, hbanks⟩

end Sys2Proof.Machine
end

section
/-!
PROOF. Flushes, RESET, the strap word, the probes and the marker of preparation: O53, O54, O55 and O57.
-/

namespace Sys2Proof.Machine

open Sys2Proof

variable {s t u : State} {p q : Port} {b : Burst}

/-! ## The state at the end of a write burst, field by field -/

/-- What the end of a burst can change before its requester takes it. -/
theorem bankAfter_frame (b : Burst) (done : Bool) (s : State) : bankAfter b done s = { s with
    banks := (bankAfter b done s).banks, portA := (bankAfter b done s).portA, portB := (bankAfter b done s).portB
    objects := (bankAfter b done s).objects, damage := (bankAfter b done s).damage, upkeep := (bankAfter b done s).upkeep
    slots := (bankAfter b done s).slots, pool := (bankAfter b done s).pool } := by
  unfold bankAfter
  split
  · split
    · obtain ⟨a', b', o, d, u, sl, pl, h⟩ := setBank_frame (bankOf b.slot) .suspect s
      rw [h]
    · rfl
  · obtain ⟨a', b', o, d, u, sl, pl, h⟩ := setBank_frame (bankOf b.slot) .offline s
    rw [h]

theorem writeEnded_frame (b : Burst) (done : Bool) (s : State) : writeEnded b done s = { s with
    burst := none, arbiter := (burstOver s).arbiter, medium := (writeEnded b done s).medium
    freeCount := (writeEnded b done s).freeCount, banks := (writeEnded b done s).banks, portA := (writeEnded b done s).portA
    portB := (writeEnded b done s).portB, objects := (writeEnded b done s).objects, damage := (writeEnded b done s).damage
    upkeep := (writeEnded b done s).upkeep, slots := (writeEnded b done s).slots, pool := (writeEnded b done s).pool } := by
  rw [writeEnded, bankAfter_frame, contentAfter_frame, emptyWritten_frame]
  rfl

theorem readEnded_frame (b : Burst) (done : Bool) (s : State) : readEnded b done s = { s with
    burst := none, arbiter := (burstOver s).arbiter, banks := (readEnded b done s).banks, portA := (readEnded b done s).portA
    portB := (readEnded b done s).portB, objects := (readEnded b done s).objects, damage := (readEnded b done s).damage
    upkeep := (readEnded b done s).upkeep, slots := (readEnded b done s).slots, pool := (readEnded b done s).pool } := by
  rw [readEnded, bankAfter_frame]
  rfl

theorem onlyNotices_bankAfter (b : Burst) (done : Bool) (s : State) : OnlyNotices s (bankAfter b done s) := by
  unfold bankAfter
  split
  · split
    · exact onlyNotices_setBank _ _ _
    · exact .refl s
  · exact onlyNotices_setBank _ _ _

theorem onlyNotices_writeEnded (b : Burst) (done : Bool) (s : State) : OnlyNotices s (writeEnded b done s) := by
  refine OnlyNotices.trans (.of_ports ?_ ?_) (onlyNotices_bankAfter b done _) <;>
    rw [contentAfter_frame, emptyWritten_frame] <;> rfl

theorem onlyNotices_readEnded (b : Burst) (done : Bool) (s : State) : OnlyNotices s (readEnded b done s) :=
  OnlyNotices.trans (.of_ports rfl rfl) (onlyNotices_bankAfter b done _)

/-! ## The billing flush -/

theorem setOp_same (s : State) (p : Port) : s.setOp p (s.port p).op = s := by cases p <;> rfl

@[simp] theorem setOp_op (s : State) (p : Port) (o : Op) : ((s.setOp p o).port p).op = o := by cases p <;> rfl

theorem setOp_op_other (o : Op) (h : p ≠ q) : (s.setOp q o).port p = s.port p := by
  cases p <;> cases q <;> first | rfl | exact absurd rfl h

/-- The end of a billing flush changes a port's operation alone. -/
theorem flushedWait_setOp (p : Port) (s : State) : ∃ o, flushedWait p s = s.setOp p o := by
  unfold flushedWait
  split
  · exact ⟨_, rfl⟩
  · split
    · exact ⟨_, rfl⟩
    · exact ⟨_, rfl⟩
    all_goals exact ⟨_, (setOp_same s p).symm⟩
  · exact ⟨_, (setOp_same s p).symm⟩

theorem unflushedWait_setOp (p : Port) (s : State) : ∃ o, unflushedWait p s = s.setOp p o := by
  unfold unflushedWait
  split
  · exact ⟨_, rfl⟩
  · split
    · exact ⟨_, rfl⟩
    · exact ⟨_, rfl⟩
    all_goals exact ⟨_, (setOp_same s p).symm⟩
  · exact ⟨_, (setOp_same s p).symm⟩

/-- The operation of a port after the billing flush that carried its change. -/
theorem flushedWait_op {o : Op} (h : (s.port p).op = o) :
    (∀ r, o = .flushWait r .inBurst → ((flushedWait p s).port p).op = .respond r none false) ∧
    (∀ r, o = .flushWait r .waiting → ((flushedWait p s).port p).op = o) ∧
    (∀ c, o = .order c → c.stage = .entryFlush .inBurst →
      ((flushedWait p s).port p).op = .order { c with stage := .rendering }) ∧
    ∀ c, o = .order c → c.stage = .finalFlush .inBurst →
      ((flushedWait p s).port p).op = .respond (orderResponse s c .done) (some c.render.key) false := by
  refine ⟨?_, ?_, ?_, ?_⟩
  · rintro r rfl
    simp only [flushedWait, h, respond, setOp_op]
  · rintro r rfl
    simp only [flushedWait, h]
  · rintro ⟨n, st, c⟩ rfl rfl
    simp only [flushedWait, h, setOp_op]
  · rintro ⟨n, st, c⟩ rfl rfl
    simp only [flushedWait, h, respond, setOp_op]

/-- The operation of a port after a billing flush that faulted. -/
theorem unflushedWait_op {o : Op} (h : (s.port p).op = o) :
    (∀ r, o = .flushWait r .inBurst → ((unflushedWait p s).port p).op = .flushWait r .waiting) ∧
    (∀ c, o = .order c → c.stage = .entryFlush .inBurst →
      ((unflushedWait p s).port p).op = .order { c with stage := .entryFlush .waiting }) ∧
    ∀ c, o = .order c → c.stage = .finalFlush .inBurst →
      ((unflushedWait p s).port p).op = .order { c with stage := .finalFlush .waiting } := by
  refine ⟨?_, ?_, ?_⟩
  · rintro r rfl
    simp only [unflushedWait, h, setOp_op]
  · rintro ⟨n, st, c⟩ rfl rfl
    simp only [unflushedWait, h, setOp_op]
  · rintro ⟨n, st, c⟩ rfl rfl
    simp only [unflushedWait, h, setOp_op]

/-- Settles O53: the end of the burst keeps the operations of both ports (`onlyNotices_writeEnded`), and each waiting operation
takes the outcome by the equation of its own form. -/
theorem flushOutcomes : Obligations.FlushOutcomes := by
  refine ⟨fun b s hb hw => ⟨⟨_, exec_catalogueFlushComplete .done hb hw, ?_, ?_⟩, _,
    exec_catalogueFlushComplete .mediumFault hb hw, ?_⟩, fun b s hb hw => ⟨?_, ?_⟩⟩
  · change (writeEnded b true s).dirty = _
    rw [writeEnded_frame]
  · change (writeEnded b true s).billingPending = _
    rw [writeEnded_frame]
  · exact mem_dirty_mark.mpr (.inr rfl)
  · have hop : ((flushedWait .a (writeEnded b true s)).port .b).op = s.portB.op := by
      obtain ⟨o, ho⟩ := flushedWait_setOp .a (writeEnded b true s)
      rw [ho, setOp_op_other _ (by decide)]
      exact (onlyNotices_writeEnded b true s).op .b
    obtain ⟨oa, ha⟩ := flushedWait_setOp .a (writeEnded b true s)
    obtain ⟨ob, hob⟩ := flushedWait_setOp .b (flushedWait .a (writeEnded b true s))
    obtain ⟨hwait, hstill, hentry, hfinal⟩ := flushedWait_op hop
    have hjournal : (flushedWait .a (writeEnded b true s)).journal = s.journal := by rw [ha, setOp_journal, writeEnded_frame]
    refine ⟨_, exec_billingFlushComplete .done hb hw, ?_, ?_, ?_, hwait, fun r hr => (hstill r hr).trans hr, hentry, ?_⟩
    · change (flushedWait .b (flushedWait .a (writeEnded b true s))).journal = _
      rw [hob, setOp_journal, hjournal]
    · change (flushedWait .b (flushedWait .a (writeEnded b true s))).accounts = _
      rw [hob, ha, setOp_accounts, setOp_accounts, writeEnded_frame]
    · change (flushedWait .b (flushedWait .a (writeEnded b true s))).billingPending = _
      rw [hob, ha, setOp_billingPending, setOp_billingPending, writeEnded_frame]
    · intro o e ho hst he
      refine (hfinal o ho hst).trans ?_
      have hentry : (flushedWait .a (writeEnded b true s)).findEntry o.sequence = some e := by
        rw [State.findEntry, hjournal]; exact he
      rw [orderResponse, hentry]
      rfl
  · have hop : ((unflushedWait .a (writeEnded b false s)).port .b).op = s.portB.op := by
      obtain ⟨o, ho⟩ := unflushedWait_setOp .a (writeEnded b false s)
      rw [ho, setOp_op_other _ (by decide)]
      exact (onlyNotices_writeEnded b false s).op .b
    obtain ⟨hwait, hentry, hfinal⟩ := unflushedWait_op hop
    exact ⟨_, exec_billingFlushComplete .mediumFault hb hw, rfl, hwait, fun o ho => ⟨hentry o ho, hfinal o ho⟩⟩

/-! ## RESET -/

theorem carriedBurst_of_write {content : SlotContent} (hb : s.burst = some b) (hc : b.content = some content) :
    ∃ b', carriedBurst s = some b' ∧ b'.slot = b.slot ∧ b'.content = some content ∧ b'.retry = b.retry ∧
      ∃ suspect, b'.work = .carried suspect := by
  obtain ⟨work, slot, retry, timer, content'⟩ := b
  subst hc
  unfold carriedBurst
  rw [hb]
  cases work <;> exact ⟨_, rfl, rfl, rfl, rfl, _, rfl⟩

theorem carriedBurst_of_read (hb : s.burst = some b) (hc : b.content = none) : carriedBurst s = none := by
  obtain ⟨work, slot, retry, timer, content⟩ := b
  subst hc
  simp only [carriedBurst, hb]

/-- Settles O54: `resetState` names every item that is kept, and the end of a carried write writes one slot. -/
theorem resetDiscardsVolatile : Obligations.ResetDiscardsVolatile := by
  refine ⟨fun s hs => ⟨resetState s, ?_, rfl, fun b hb hc => carriedBurst_of_read hb hc, fun hb => ?_, fun b content hb hc =>
    carriedBurst_of_write hb hc⟩, fun b suspect content ending s hm hb hw hc =>
    ⟨_, exec_carriedWriteBurstEnd ending hb hw, ?_, fun n hn => contentAfter_other b _ (burstOver s) hn, ?_, ?_⟩⟩
  · simp only [exec, execResetAsserted, hs, Bool.false_eq_true, if_false]
  · change carriedBurst s = none
    rw [carriedBurst, hb]
  · rw [contentAfter_frame]
    rfl
  · rintro rfl
    exact contentAfter_done (s := burstOver s) hm hc
  · rintro rfl
    rw [WriteEnd.isDone, contentAfter, hc]
    exact ⟨_, mediumRead_write_same _ _ hm⟩

/-! ## The strap word -/

/-- The number whose bits, from bit 0 up, are the list's. -/
def bitsValue (bits : List Bool) : Nat := bits.foldr Nat.bit 0

theorem testBit_bitsValue (bits : List Bool) (i : Nat) : (bitsValue bits).testBit i = bits.getD i false := by
  induction bits generalizing i with
  | nil => simp [bitsValue]
  | cons bit rest ih =>
    cases i with
    | zero => exact Nat.testBit_bit_zero bit _
    | succ i => exact (Nat.testBit_bit_succ i bit _).trans (ih i)

theorem sum_zipIdx_bits (bits : List Bool) (k : Nat) :
    ((bits.zipIdx k).map fun (b, i) => if b then 2 ^ i else 0).sum = 2 ^ k * bitsValue bits := by
  induction bits generalizing k with
  | nil => rfl
  | cons bit rest ih =>
    rw [List.zipIdx_cons, List.map_cons, List.sum_cons, ih]
    change _ = 2 ^ k * Nat.bit bit (bitsValue rest)
    cases bit <;> simp [Nat.bit_val, pow_succ] <;> ring

theorem strapOf_bit {bits : List Bool} (h : bits.length = 16) (i : Nat) : (strapOf bits).getLsbD i = bits.getD i false := by
  rw [strapOf, sum_zipIdx_bits bits 0, pow_zero, one_mul, BitVec.getLsbD_ofNat, testBit_bitsValue]
  by_cases hi : i < 16
  · simp only [hi, decide_true, Bool.true_and]
  · rw [List.getD_eq_default _ _ (by omega), Bool.and_false]

/-- Settles O55: the rows of the strap word are equations of `takeStrapBit`, and a list of bits is read back by `testBit`. -/
theorem strapWordLatched : Obligations.StrapWordLatched := by
  refine ⟨fun s hs => ?_, fun s hs => ?_, fun bits i h => strapOf_bit h i, fun bit s =>
    ⟨fun bits hr hp hlen => ⟨?_, ?_⟩, fun bits hr hp hlen => ⟨?_, ?_⟩, fun h => ⟨?_, ?_⟩⟩⟩
  · simp only [exec, execResetReleased, hs, if_true, releaseReset]
  · simp only [exec, execResetReleased, hs, Bool.false_eq_true, if_false]
  · simp only [exec, execStrapBitTaken, takeStrapBit, hr, hp, hlen, if_true]
  · simp only [exec, execLatchStrapWord, hr, hp, hlen, if_true]
  · simp only [exec, execLatchStrapWord, hr, hp, hlen, lt_irrefl, if_false, latchStrap]
  · simp only [exec, execLatchStrapWord, execStrapBitTaken, takeStrapBit, hr, hp, hlen, lt_irrefl, if_false]
  · change Host.Outcome.next (takeStrapBit bit s) = _
    unfold takeStrapBit
    split
    · next bits hr hp => exact absurd h (not_or.mpr ⟨by rw [hr]; decide, fun h => h bits hp⟩)
    · rfl
  · change execLatchStrapWord bit s = _
    unfold execLatchStrapWord
    split
    · next bits hr hp => exact absurd h (not_or.mpr ⟨by rw [hr]; decide, fun h => h bits hp⟩)
    · rfl

/-! ## The probes and the marker of preparation -/

theorem enterState_device (d : DeviceState) (s : State) : (enterState d s).device = d ∧ (enterState d s).prep = s.prep := by
  unfold enterState
  rw [raiseDevice_frame, raiseDevice_frame]
  exact ⟨rfl, rfl⟩

theorem fail_device (s : State) : (fail s).device = .faulted ∧ (fail s).prep = .finished := enterState_device .faulted _

theorem setBank_device (n : Nat) (st : BankState) (s : State) :
    (setBank n st s).device = s.device ∧ (setBank n st s).strap = s.strap := by
  obtain ⟨_, _, _, _, _, _, _, h⟩ := setBank_frame n st s
  rw [h]
  exact ⟨rfl, rfl⟩

theorem prepProbeTaken_effect (n : Nat) (ok : Bool) (s : State) :
    (prepProbeTaken n ok s).banks = s.banks.set n (if ok then .online else .offline) ∧
      (n = 0 → ok = false → (prepProbeTaken n ok s).device = .faulted ∧ (prepProbeTaken n ok s).prep = .finished) ∧
      ((n ≠ 0 ∨ ok = true) → (prepProbeTaken n ok s).device = s.device ∧
        (prepProbeTaken n ok s).prep = if n + 1 < bankCount s.strap then .probe (n + 1) else .marker) := by
  unfold prepProbeTaken
  dsimp only
  obtain ⟨hdevice, hstrap⟩ := setBank_device n (if ok then .online else .offline) s
  split
  · next h =>
    refine ⟨by rw [still_fail.banks, setBank_banks], fun _ _ => fail_device _, ?_⟩
    rintro (hn | ho)
    · exact absurd h.1 hn
    · rw [h.2] at ho; cases ho
  · next h => exact ⟨setBank_banks _ _ _, fun hn ho => absurd ⟨hn, ho⟩ h, fun _ => ⟨hdevice, by rw [hstrap]⟩⟩

theorem light_of_correctable {errors : List WordError} (h : ∀ e ∈ errors, wrongBits e.mask = 1 ∨ wrongBits e.mask = 2) :
    heavyErrors errors = false := by
  rw [heavyErrors, List.any_eq_false]
  intro e he
  rcases h e he with h | h <;> rw [h] <;> decide

theorem spendRead_light {errors : List WordError} (h : heavyErrors errors = false) : spendRead (.delivered errors) s = s := by
  simp only [spendRead, h, Bool.false_eq_true, if_false]

section
variable {errors : List WordError}

theorem result_of_double (h : ∀ e ∈ errors, wrongBits e.mask = 1 ∨ wrongBits e.mask = 2) (hd : ∃ e ∈ errors, wrongBits e.mask = 2)
    (n : Nat) : ∃ k, (deliver s n (.delivered errors)).result = .uncorrectable k := by
  have hany : (errors.any fun e => decide (wrongBits e.mask = 2)) = true := by simpa using hd
  exact ⟨_, (readResult_eq h).trans (if_pos hany)⟩

theorem result_of_single (h : ∀ e ∈ errors, wrongBits e.mask = 1) (n : Nat) :
    (deliver s n (.delivered errors)).result = .clean ∨ ∃ k, (deliver s n (.delivered errors)).result = .corrected k := by
  have hany : ¬ (errors.any fun e => decide (wrongBits e.mask = 2)) = true := by
    rw [List.any_eq_true]
    rintro ⟨e, he, hd⟩
    rw [h e he] at hd
    exact absurd hd (by decide)
  have hr := (readResult_eq (nonce := s.freeCount) fun e he => .inl (h e he)).trans (if_neg hany)
  by_cases hc : (errors.countP fun e => decide (wrongBits e.mask = 1)) = 0
  · exact .inl (hr.trans (if_pos hc))
  · exact .inr ⟨_, hr.trans (if_neg hc)⟩

theorem prepMarkerTaken_of_double (h : ∀ e ∈ errors, wrongBits e.mask = 1 ∨ wrongBits e.mask = 2)
    (hd : ∃ e ∈ errors, wrongBits e.mask = 2) : prepMarkerTaken (.delivered errors) s = fail s := by
  obtain ⟨k, hk⟩ := result_of_double (s := s) h hd 0
  simp only [prepMarkerTaken, hk]

/-- The end of a read without a free value. -/
theorem endRead_delivered {take : Delivery → State → State} (h : heavyErrors errors = false) :
    endRead b (.delivered errors) take s = settle (take (deliver s b.slot (.delivered errors)) (readEnded b true s)) := by
  rw [endRead_eq, spendRead_light h]
  rfl

/-- What the marker read decides where every error was corrected. -/
theorem prepMarkerTaken_of_single (h : ∀ e ∈ errors, wrongBits e.mask = 1) :
    (mediumRead s.medium 0 = .image (.marker .current) → prepMarkerTaken (.delivered errors) s = { s with prep := .load 1 }) ∧
    (mediumRead s.medium 0 = .image (.marker .other) → prepMarkerTaken (.delivered errors) s = fail s) ∧
    (mediumRead s.medium 0 = .words [] → prepMarkerTaken (.delivered errors) s = { blankTables s with prep := .format 1 }) := by
  have hlight := light_of_correctable fun e he => Or.inl (h e he)
  refine ⟨fun hm => ?_, fun hm => ?_, fun hm => ?_⟩ <;>
    rcases result_of_single (s := s) h 0 with hr | ⟨k, hr⟩ <;>
    simp only [prepMarkerTaken, hr, hm, markerOf, hlight, Bool.false_eq_true, if_false]

end

/-- Settles O57: `prepProbeTaken_effect`, and the three contents of the marker's slot by `prepMarkerTaken_of_single`. -/
theorem preparationProbesAndMarker : Obligations.PreparationProbesAndMarker := by
  refine ⟨fun b ending s hb hw => ?_, fun b errors s hb hw hslot herr => ⟨?_, ?_⟩⟩
  · obtain ⟨hbanks, hfail, hnext⟩ := prepProbeTaken_effect (bankOf b.slot) (ProbeEnd.isSuccess ending) (burstOver s)
    refine ⟨_, exec_prepProbeComplete ending hb hw, ?_, ?_, ?_⟩
    · cases ending <;> exact hbanks
    · rintro hn rfl
      exact hfail hn rfl
    · rintro (hn | rfl)
      · exact hnext (.inl hn)
      · exact hnext (.inr rfl)
  · exact ⟨_, exec_prepMarkerReadComplete .mediumFault hb hw, (fail_device _).1⟩
  · have hexec := exec_prepMarkerReadComplete (.delivered errors) hb hw
    rw [endRead_delivered (light_of_correctable herr)] at hexec
    have hframe := readEnded_frame b true s
    generalize readEnded b true s = u at hexec hframe
    refine ⟨_, hexec, fun hd => ?_, fun hone => ?_⟩
    · rw [prepMarkerTaken_of_double herr hd]
      exact (fail_device u).1
    · obtain ⟨hcurrent, hother, hblank⟩ := prepMarkerTaken_of_single (s := u) hone
      have hmedium : u.medium = s.medium := by rw [hframe]
      rw [hmedium] at hcurrent hother hblank
      refine ⟨fun hm => ?_, fun hm => ?_, fun hm => ?_⟩
      · rw [hcurrent hm]
        exact ⟨rfl, by rw [hframe]⟩
      · rw [hother hm]
        exact (fail_device u).1
      · rw [hblank hm]
        exact ⟨rfl, by rw [hframe]; rfl, rfl, rfl, rfl, rfl, rfl, rfl, rfl, rfl, rfl⟩

end Sys2Proof.Machine
end

section
/-!
PROOF. The damage list and the end of a SERVICE_BANK probe: O26 and O27.
-/

namespace Sys2Proof.Machine

open Sys2Proof

variable {s t u : State} {p q : Port} {b : Burst}

/-! ## The damage list -/

theorem refillFrom_append (before after : List ObjectRec) (s : State) :
    refillFrom (before ++ after) s = refillFrom after (refillFrom before s) := by
  induction before generalizing s with
  | nil => rfl
  | cons o rest ih =>
    rw [List.cons_append, refillFrom, refillFrom]
    split
    · exact ih _
    · exact ih _

/-- A refill only adds at the tail. -/
theorem refillFrom_damage (os : List ObjectRec) (s : State) : ∃ added, (refillFrom os s).damage = s.damage ++ added := by
  induction os generalizing s with
  | nil => exact ⟨[], (List.append_nil _).symm⟩
  | cons o rest ih =>
    rw [refillFrom]
    split
    · obtain ⟨added, h⟩ := ih { s.modObject o.number (fun o => { o with withheld := false }) with
        damage := s.damage ++ [damageEntry s o] }
      exact ⟨damageEntry s o :: added, by rw [h, List.append_assoc]; rfl⟩
    · exact ih s

theorem refillFrom_of_not_withheld {os : List ObjectRec} (h : ∀ o ∈ os, o.withheld = false) (s : State) : refillFrom os s = s := by
  induction os with
  | nil => rfl
  | cons o rest ih =>
    rw [refillFrom, h o List.mem_cons_self, Bool.false_and, if_neg Bool.false_ne_true]
    exact ih fun q hq => h q (List.mem_cons_of_mem _ hq)

theorem refillDamage_damage (s : State) : (refillDamage s).damage = (refillFrom s.objects s).damage := by
  unfold refillDamage
  dsimp only
  split <;> rfl

theorem refillDamage_of_not_withheld (h : ∀ o ∈ s.objects, o.withheld = false) : refillDamage s = { s with overflow := false } := by
  rw [refillDamage, refillFrom_of_not_withheld h, if_neg]
  simpa using h

/-- The first withheld object takes the first free place. -/
theorem refillDamage_first {before after : List ObjectRec} {o : ObjectRec} (hs : s.objects = before ++ o :: after)
    (hbefore : ∀ q ∈ before, q.withheld = false) (ho : o.withheld = true) (hlen : s.damage.length < 128) :
    (refillDamage s).damage[s.damage.length]? = some (damageEntry s o) := by
  rw [refillDamage_damage, hs, refillFrom_append, refillFrom_of_not_withheld hbefore, refillFrom, ho, Bool.true_and,
    if_pos (decide_eq_true hlen)]
  obtain ⟨added, h⟩ := refillFrom_damage after { s.modObject o.number (fun o => { o with withheld := false }) with
    damage := s.damage ++ [damageEntry s o] }
  rw [h]
  simp

theorem refillDamage_take (s : State) : (refillDamage s).damage.take s.damage.length = s.damage := by
  obtain ⟨added, h⟩ := refillFrom_damage s.objects s
  rw [refillDamage_damage, h, List.take_left]

theorem port_of_ports (ha : t.portA = s.portA) (hb : t.portB = s.portB) (p : Port) : t.port p = s.port p := by
  cases p
  · exact ha
  · exact hb

/-- Settles O26: the oldest entry goes, and `refillDamage` adds at the tail, the first withheld object first. -/
theorem takeDamageTakesOldest : Obligations.TakeDamageTakesOldest := by
  intro tag s h
  refine ⟨fun hd => exec_accepted h rfl rfl rfl ?_, fun d rest hd => ⟨refillDamage { s with damage := rest },
    exec_accepted h rfl rfl rfl ?_, ?_,
    refillDamage_take { s with damage := rest }, ?_, ?_⟩⟩
  · simp only [hd]
    exact answer_of_accepts h rfl
  · simp only [hd]
    refine answer_of_accepts h (port_of_ports ?_ ?_ _) <;> rw [refillDamage_frame]
  · rw [refillDamage_frame]
  · exact fun hw => refillDamage_of_not_withheld (s := { s with damage := rest }) hw
  · intro before after o hs hbefore ho hlen
    exact refillDamage_first (s := { s with damage := rest }) hs hbefore ho hlen

/-! ## A change of a bank's state -/

theorem raiseBank_of_place {n : Nat} (h : (s.port p).outq.length < 16) (hm : (s.port p).bankMark = none) :
    raiseBank n p s = pushOut p (.notice (bankNotice s n false)) s := by
  rw [raiseBank, if_pos (by rw [hasPlace_iff.mpr h, hm]; rfl)]

theorem raiseBank_of_merged {n : Nat} (h : 16 ≤ (s.port p).outq.length ∨ (s.port p).bankMark ≠ none) :
    raiseBank n p s = s.modPort p fun e => { e with bankMark := some n } := by
  rw [raiseBank, if_neg]
  rw [Bool.and_eq_true, hasPlace_iff, Option.isNone_iff_eq_none]
  rintro ⟨hp, hm⟩
  rcases h with h | h
  · omega
  · exact h hm

theorem raiseBank_port_other {n : Nat} (h : q ≠ p) : (raiseBank n p s).port q = s.port q := by
  rcases raiseBank_cases n p s with e | e <;> rw [e]
  · exact pushOut_port_other _ _ h
  · exact modPort_port_other _ _ h

theorem bankNotice_congr {n : Nat} {m : Bool} (hb : t.banks = s.banks) (hs : t.strap = s.strap) : bankNotice t n m = bankNotice s n m := by
  have hbank : reportedBank t = reportedBank s := funext fun k => by simp only [reportedBank, hb, hs]
  simp only [bankNotice, reportedBanks, hbank]

/-- What a port has received once a bank's change was reported to it: a notice of the banks as they stand, or its mark. -/
def Notified (n : Nat) (notice : Notice) (e e' : PortEngine) : Prop :=
  (e.outq.length < 16 → e.bankMark = none → e'.bankMark = none ∧ e'.outq = e.outq ++ [.notice notice]) ∧
  ((16 ≤ e.outq.length ∨ e.bankMark ≠ none) → e'.outq = e.outq ∧ e'.bankMark = some n)

theorem raiseBank_notified (n : Nat) (p : Port) (s : State) :
    Notified n (bankNotice s n false) (s.port p) ((raiseBank n p s).port p) := by
  refine ⟨fun h hm => ?_, fun h => ?_⟩
  · rw [raiseBank_of_place h hm, pushOut_port_same]
    exact ⟨hm, rfl⟩
  · rw [raiseBank_of_merged h, modPort_port_same]
    exact ⟨rfl, rfl⟩

/-- Both ports are notified of a bank's change, in the words of the banks as they now stand. -/
theorem setBank_notified {n : Nat} {st : BankState} (h : s.banks.getD n .online ≠ st) (p : Port) :
    Notified n (bankNotice (setBank n st s) n false) (s.port p) ((setBank n st s).port p) := by
  have hnotice : bankNotice (setBank n st s) n false = bankNotice { s with banks := s.banks.set n st } n false := by
    refine bankNotice_congr (setBank_banks n st s) ?_
    obtain ⟨_, _, _, _, _, _, _, hframe⟩ := setBank_frame n st s
    rw [hframe]
  have hport : (setBank n st s).port p = (raiseBank n .b (raiseBank n .a { s with banks := s.banks.set n st })).port p := by
    rw [setBank_of_ne h]
    split
    · exact bankCrossed_port n _ p
    · rfl
  rw [hnotice, hport]
  cases p
  · rw [raiseBank_port_other (by decide)]
    exact raiseBank_notified n .a { s with banks := s.banks.set n st }
  · have hother := raiseBank_notified n .b (raiseBank n .a { s with banks := s.banks.set n st })
    rw [raiseBank_port_other (by decide)] at hother
    have hsame : bankNotice (raiseBank n .a { s with banks := s.banks.set n st }) n false =
        bankNotice { s with banks := s.banks.set n st } n false := by
      refine bankNotice_congr ?_ ?_ <;> rw [raiseBank_frame]
    rw [hsame] at hother
    exact hother

/-- An object has a tile in the bank. -/
def hasTileIn (n : Nat) (o : ObjectRec) : Bool := o.tileMap.any fun m => bankOf m.slot == n

/-- The objects and the damage list after a bank's change of state: those of `s`, with the impaired tile counts of the objects with
a tile in the bank taken again where `crossed`. -/
structure Recounted (n : Nat) (crossed : Bool) (s t : State) : Prop where
  objects : t.objects = s.objects.map fun o =>
    if crossed && hasTileIn n o then { o with impairedCount := impairedTiles { s with banks := t.banks } o } else o
  damage : t.damage = s.damage.map fun d =>
    match s.findObject d.object with
    | some o => if crossed && hasTileIn n o then { d with impaired := impairedTiles { s with banks := t.banks } o } else d
    | none => d

theorem recounted_of_same (n : Nat) (ho : t.objects = s.objects) (hd : t.damage = s.damage) : Recounted n false s t := by
  refine ⟨?_, ?_⟩
  · rw [ho]
    exact (List.map_id _).symm
  · rw [hd]
    refine (List.map_id _).symm.trans (List.map_congr_left fun d _ => ?_)
    cases s.findObject d.object <;> rfl

/-- A bank's change of state crosses OFFLINE exactly where one of the two states is OFFLINE. -/
theorem crosses_eq {a c : BankState} (h : a ≠ c) : ((a == .offline) != (c == .offline)) = decide (a = .offline ∨ c = .offline) := by
  cases a <;> cases c <;> first | rfl | exact absurd rfl h

theorem bankCrossed_recounted (n : Nat) (hs : s = { t with banks := s.banks, portA := s.portA, portB := s.portB }) :
    Recounted n true t (bankCrossed n s) := by
  obtain ⟨u, sl, pl, hdrop⟩ := dropIfOffline_frame (recountWhere (hasTileIn n) s)
  rw [show bankCrossed n s = dropIfOffline (recountWhere (hasTileIn n) s) from rfl, hdrop]
  have hobjects : s.objects = t.objects := by rw [hs]
  have hslots : s.slots = t.slots := by rw [hs]
  have hfind (k : Nat) : s.findObject k = t.findObject k := by simp only [State.findObject, hobjects]
  have hcount : impairedTiles s = impairedTiles { t with banks := s.banks } := by
    funext o
    rw [hs]
    rfl
  refine ⟨?_, ?_⟩
  · change s.objects.map _ = _
    rw [hobjects, hcount]
    rfl
  · change s.damage.map _ = _
    rw [show s.damage = t.damage by rw [hs]]
    refine List.map_congr_left fun d _ => ?_
    simp only [hfind, hcount]
    cases t.findObject d.object <;> rfl

theorem setBank_recounted (n : Nat) (st : BankState) (s : State) :
    Recounted n (decide (s.banks.getD n .online ≠ st ∧ (s.banks.getD n .online = .offline ∨ st = .offline))) s (setBank n st s) := by
  by_cases h : s.banks.getD n .online = st
  · rw [setBank_of_eq h, decide_eq_false fun hc => hc.1 h]
    exact recounted_of_same n rfl rfl
  · have hbanks := setBank_banks n st s
    rw [setBank_of_ne h] at hbanks ⊢
    have hraised : raiseBank n .b (raiseBank n .a { s with banks := s.banks.set n st }) = { s with
        banks := s.banks.set n st
        portA := (raiseBank n .b (raiseBank n .a { s with banks := s.banks.set n st })).portA
        portB := (raiseBank n .b (raiseBank n .a { s with banks := s.banks.set n st })).portB } := by
      exact (raiseBank_frame n .b _).trans (by rw [raiseBank_frame n .a])
    generalize raiseBank n .b (raiseBank n .a { s with banks := s.banks.set n st }) = v at hraised hbanks ⊢
    rw [crosses_eq h]
    by_cases hc : s.banks.getD n .online = .offline ∨ st = .offline
    · rw [if_pos (decide_eq_true hc), decide_eq_true (And.intro h hc)]
      refine bankCrossed_recounted n ?_
      rw [hraised]
    · rw [if_neg (by simpa using hc), decide_eq_false fun k => hc k.2]
      refine recounted_of_same n ?_ ?_ <;> rw [hraised]

theorem probeTaken_eq {tag : Tag} {bank : Nat} {granted : Bool} (n : Nat) (ok : Bool) (h : s.portA.op = .probe tag bank granted) :
    probeTaken n ok s = respond .a ⟨tag, .done, if ok then none else some .mediumFault, [], []⟩ none false
      (setBank n (if ok then .online else .offline) s) := by
  have hop : (setBank n (if ok then .online else .offline) s).portA.op = .probe tag bank granted :=
    ((onlyNotices_setBank n _ s).op .a).trans h
  simp only [probeTaken, hop]

theorem respond_outq (r : Response) (k : Option EditionKey) (store : Bool) (s : State) (p : Port) :
    ((respond q r k store s).port p).outq = (s.port p).outq ∧ ((respond q r k store s).port p).bankMark = (s.port p).bankMark := by
  cases q <;> cases p <;> exact ⟨rfl, rfl⟩

/-- Settles O27: the port takes its response after `setBank`, whose notices and recount stand in lemmas of their own. -/
theorem serviceBankProbes : Obligations.ServiceBankProbes := by
  refine ⟨fun tag bank s h => exec_accepted h rfl rfl rfl ?_, ?_⟩
  · have hcount : bankCount s.strap ≤ 4 := by unfold bankCount; omega
    by_cases hb : numberOf bank < bankCount s.strap
    · rw [if_neg (by omega), if_pos hb]
      rfl
    · rw [if_pos (by omega), if_neg hb]
      exact refuse_of_accepts h
  intro ending b tag bank granted s hb hw hop n was now crossed counted
  have hnow : (if ProbeEnd.isSuccess ending then .online else .offline) = now := by
    dsimp only [now]; cases ending <;> rfl
  have htaken := probeTaken_eq (s := burstOver s) n (ProbeEnd.isSuccess ending) hop
  rw [hnow] at htaken
  rw [exec_probeComplete ending hb hw, endProbe, show bankOf b.slot = n from rfl, htaken]
  have hrecount : Recounted n crossed (burstOver s) (setBank n now (burstOver s)) := setBank_recounted n now (burstOver s)
  obtain ⟨_, _, _, _, _, _, _, hframe⟩ := setBank_frame n now (burstOver s)
  have hbanks := setBank_banks n now (burstOver s)
  have hnotified := setBank_notified (n := n) (st := now) (s := burstOver s)
  have hsame := setBank_of_eq (n := n) (st := now) (s := burstOver s)
  generalize setBank n now (burstOver s) = v at hrecount hframe hbanks hnotified hsame ⊢
  have hcounted (o : ObjectRec) (h : (crossed && hasTileIn n o) = true) :
      impairedTiles { burstOver s with banks := v.banks } o = counted v o := (if_pos h).symm
  refine ⟨_, rfl, hbanks, ?_, ?_, ?_, ?_, ?_, ?_, fun p => ⟨fun heq => ?_, fun hne => ?_⟩, ?_, ?_⟩
  · cases ending <;> rfl
  · change v.burst = none
    rw [hframe]; rfl
  · change v.medium = _
    rw [hframe]; rfl
  · change v.editions = _
    rw [hframe]; rfl
  · change v.journal = _
    rw [hframe]; rfl
  · change v.accounts = _
    rw [hframe]; rfl
  · obtain ⟨hq, hm⟩ := respond_outq (q := .a) ⟨tag, .done, if ProbeEnd.isSuccess ending then none else some .mediumFault, [], []⟩
      none false v p
    rw [hq, hm, hsame heq]
    cases p <;> exact ⟨rfl, rfl⟩
  · obtain ⟨hq, hm⟩ := respond_outq (q := .a) ⟨tag, .done, if ProbeEnd.isSuccess ending then none else some .mediumFault, [], []⟩
      none false v p
    rw [hq, hm]
    rw [show s.port p = (burstOver s).port p by cases p <;> rfl]
    exact hnotified hne p
  · refine hrecount.objects.trans (List.map_congr_left fun o _ => ?_)
    by_cases h : (crossed && hasTileIn n o) = true
    · rw [if_pos h, hcounted o h]
      rfl
    · rw [if_neg h]
      exact (congrArg (fun k => { o with impairedCount := k }) (if_neg h)).symm
  · intro i d o hd hfind
    have hat : v.damage[i]? = some (if crossed && hasTileIn n o then
        { d with impaired := impairedTiles { burstOver s with banks := v.banks } o } else d) := by
      rw [hrecount.damage, List.getElem?_map, show (burstOver s).damage[i]? = some d from hd]
      simp only [Option.map_some, show (burstOver s).findObject d.object = some o from hfind]
    refine ⟨fun hc ht => hat.trans ?_, fun hn => hat.trans ?_⟩
    · have h : (crossed && hasTileIn n o) = true := by rw [hc]; exact ht
      rw [if_pos h, hcounted o h]
      rfl
    · rw [if_neg]
      rw [Bool.and_eq_true]
      rintro ⟨hc, ht⟩
      rcases hn with hn | hn
      · rw [hc] at hn; cases hn
      · exact absurd (ht.symm.trans hn) (by decide)

end Sys2Proof.Machine
end

section
/-!
PROOF. The ends of a master's read and write bursts: O47, O48 and O49.
-/

namespace Sys2Proof.Machine

open Sys2Proof

variable {s t u : State} {p q : Port} {b : Burst}

/-! ## The objects found after a change -/

theorem find?_map_number {f : ObjectRec → ObjectRec} (hf : ∀ o, (f o).number = o.number) (os : List ObjectRec) (n : Nat) :
    (os.map f).find? (fun o => o.number == n) = (os.find? fun o => o.number == n).map f := by
  rw [List.find?_map]
  congr 2
  funext o
  exact congrArg (· == n) (hf o)

theorem findObject_modObject_same {n : Nat} {o : ObjectRec} {f : ObjectRec → ObjectRec} (hf : ∀ o, (f o).number = o.number)
    (h : s.findObject n = some o) : (s.modObject n f).findObject n = some (f o) := by
  refine (find?_map_number (fun q => ?_) s.objects n).trans ?_
  · split
    · exact hf q
    · rfl
  · rw [show (s.objects.find? fun o => o.number == n) = some o from h, Option.map_some, if_pos (findObject_number h)]

theorem findObject_recountWhere {n : Nat} {o : ObjectRec} (choose : ObjectRec → Bool) (h : s.findObject n = some o) :
    (recountWhere choose s).findObject n = some (if choose o then { o with impairedCount := impairedTiles s o } else o) := by
  refine (find?_map_number (fun q => ?_) s.objects n).trans ?_
  · split <;> rfl
  · rw [show (s.objects.find? fun o => o.number == n) = some o from h, Option.map_some]

theorem findObject_recountObject {n : Nat} {o : ObjectRec} (h : s.findObject n = some o) :
    (recountObject n s).findObject n = some { o with impairedCount := impairedTiles s o } := by
  refine (findObject_recountWhere _ h).trans ?_
  rw [if_pos (by rw [findObject_number h, beq_self_eq_true])]

/-! ## The state at the end of a burst that was done, in a bank that is not OFFLINE -/

theorem bankAfter_done_frame (h : bankOffline s (bankOf b.slot) = false) : bankAfter b true s = { s with
    banks := (bankAfter b true s).banks, portA := (bankAfter b true s).portA, portB := (bankAfter b true s).portB } := by
  unfold bankAfter
  simp only [if_true]
  split
  · exact (setBank_suspect_frame h).trans (by rw [setBank_banks])
  · rfl

theorem readEnded_done_frame (h : bankOffline s (b.slot / 16384) = false) : readEnded b true s = { s with
    burst := none, arbiter := (burstOver s).arbiter, banks := (readEnded b true s).banks, portA := (readEnded b true s).portA
    portB := (readEnded b true s).portB } := by
  rw [readEnded, bankAfter_done_frame (s := burstOver s) h]
  rfl

theorem writeEnded_done_frame (h : bankOffline s (b.slot / 16384) = false) : writeEnded b true s = { s with
    burst := none, arbiter := (burstOver s).arbiter, medium := (writeEnded b true s).medium
    freeCount := (writeEnded b true s).freeCount, upkeep := (emptyWritten b (burstOver s)).upkeep
    banks := (writeEnded b true s).banks, portA := (writeEnded b true s).portA, portB := (writeEnded b true s).portB } := by
  have hoff : bankOffline (contentAfter b true (emptyWritten b (burstOver s))) (bankOf b.slot) = false := by
    rw [contentAfter_frame, emptyWritten_frame]
    exact h
  rw [writeEnded, bankAfter_done_frame hoff, contentAfter_frame, emptyWritten_frame]
  rfl

theorem bankOffline_done {n : Nat} (h : bankOffline s (b.slot / 16384) = false)
    (hb : t.banks = if true then (if b.retry then s.banks.set (b.slot / 16384) .suspect else s.banks) else
      s.banks.set (b.slot / 16384) .offline) : bankOffline t n = bankOffline s n := by
  rw [if_pos rfl] at hb
  split at hb
  · exact bankOffline_set_suspect h hb
  · rw [bankOffline, bankOffline, hb]

theorem bankOffline_readEnded (h : bankOffline s (b.slot / 16384) = false) (n : Nat) :
    bankOffline (readEnded b true s) n = bankOffline s n := bankOffline_done h (readEnded_banks b true s)

theorem bankOffline_writeEnded (h : bankOffline s (b.slot / 16384) = false) (n : Nat) :
    bankOffline (writeEnded b true s) n = bankOffline s n := bankOffline_done h (writeEnded_banks b true s)

/-- A free value spent leaves everything but its count. -/
theorem spendRead_frame (r : ReadEnd) (s : State) : spendRead r s = { s with freeCount := (spendRead r s).freeCount } := by
  unfold spendRead
  split
  · split <;> rfl
  · rfl

/-! ## The end of a store's write -/

/-- What the write of a tile gives its object: the map entry written, and one more written tile where it was not. -/
def writtenTile (index slot : Nat) (o : ObjectRec) : ObjectRec :=
  { o with tileMap := o.tileMap.set index ⟨slot, true⟩, writtenCount := o.writtenCount + 1 }

/-- The first half of a completed store write: the slot, and the map entry where it is written for the first time. -/
def tileStored (object index slot : Nat) (whole fresh : Bool) (s : State) : State :=
  if fresh then
    markDirty (objectGroup object)
      ((s.setSlot slot { s.slot slot with written := true, damage := (s.slot slot).damage && !whole }).modObject object
        (writtenTile index slot))
  else s.setSlot slot { s.slot slot with written := true, damage := (s.slot slot).damage && !whole }

theorem storeWriteEffect_eq {object index : Nat} {o : ObjectRec} {m : MapEntry} (slot : Nat) (whole : Bool)
    (ho : s.findObject object = some o) (hm : o.tileMap[index]? = some m) : storeWriteEffect object index slot whole s =
      if (s.slot slot).damage && whole then
        recountObject object (markDirty (markGroup slot) (tileStored object index slot whole (!m.written) s))
      else tileStored object index slot whole (!m.written) s := by
  have hget : o.tileMap.getD index ⟨0, false⟩ = m := by rw [List.getD_eq_getElem?_getD, hm]; rfl
  simp only [storeWriteEffect, ho, hget]
  rfl

theorem slot_tileStored (object index slot : Nat) (whole fresh : Bool) : (tileStored object index slot whole fresh s).slot slot =
    { s.slot slot with written := true, damage := (s.slot slot).damage && !whole } := by
  have hne : ({ s.slot slot with written := true, damage := (s.slot slot).damage && !whole } : SlotEntry) ≠ slotDefault slot := by
    intro h
    have := congrArg SlotEntry.written h
    unfold slotDefault at this
    split at this <;> cases this
  unfold tileStored
  split <;> exact slot_setSlot_new s hne

theorem findObject_tileStored {object index slot : Nat} {o : ObjectRec} {m : MapEntry} (whole : Bool)
    (ho : s.findObject object = some o) (hm : o.tileMap[index]? = some m) (hslot : m.slot = slot) :
    ∃ o', (tileStored object index slot whole (!m.written) s).findObject object = some o' ∧
      o'.tileMap = o.tileMap.set index ⟨slot, true⟩ ∧
      o'.writtenCount = (if m.written then o.writtenCount else o.writtenCount + 1) := by
  obtain ⟨n, w⟩ := m
  subst hslot
  cases w with
  | false => exact ⟨_, findObject_modObject_same (f := writtenTile index n) (fun _ => rfl) ho, rfl, rfl⟩
  | true =>
    refine ⟨o, ho, ?_, rfl⟩
    obtain ⟨hlt, hget⟩ := List.getElem?_eq_some_iff.mp hm
    rw [← hget, List.set_getElem_self]

/-- The slot, the object and the group of a store's completed write. -/
theorem storeWriteEffect_effect {object index slot : Nat} {o : ObjectRec} {m : MapEntry} (whole : Bool)
    (ho : s.findObject object = some o) (hm : o.tileMap[index]? = some m) (hslot : m.slot = slot) :
    (storeWriteEffect object index slot whole s).slot slot =
      { s.slot slot with written := true, damage := (s.slot slot).damage && !whole } ∧
    (∃ o', (storeWriteEffect object index slot whole s).findObject object = some o' ∧
      o'.tileMap = o.tileMap.set index ⟨slot, true⟩ ∧ o'.writtenCount = (if m.written then o.writtenCount else o.writtenCount + 1)) ∧
    (m.written = false → objectGroup object ∈ (storeWriteEffect object index slot whole s).dirty) := by
  have hat := slot_tileStored (s := s) object index slot whole (!m.written)
  obtain ⟨o', hfind, hmap, hcount⟩ := findObject_tileStored whole ho hm hslot
  have hdirty : m.written = false → objectGroup object ∈ (tileStored object index slot whole (!m.written) s).dirty := by
    intro hw
    rw [hw]
    exact mem_dirty_mark.mpr (.inr rfl)
  rw [storeWriteEffect_eq slot whole ho hm]
  split
  · exact ⟨hat, ⟨_, findObject_recountObject hfind, hmap, hcount⟩, fun hw => mem_dirty_mark.mpr (.inl (hdirty hw))⟩
  · exact ⟨hat, ⟨o', hfind, hmap, hcount⟩, hdirty⟩

/-- The tile maps of the objects stand, whatever a bank's change of state recounts. -/
theorem findObject_of_recounted {n k : Nat} {crossed : Bool} {o : ObjectRec} (h : Recounted n crossed s t)
    (ho : s.findObject k = some o) : ∃ x, t.findObject k = some { o with impairedCount := x } := by
  have hfind : t.findObject k = t.objects.find? fun o => o.number == k := rfl
  rw [h.objects, find?_map_number (fun q => by split <;> rfl), show (s.objects.find? fun o => o.number == k) = some o from ho, Option.map_some] at hfind
  split at hfind
  · exact ⟨_, hfind⟩
  · exact ⟨_, hfind⟩

theorem storeFaulted_op (c : StoreCtx) : (storeFaulted c s).portA.op = .respond ⟨c.tag,
    if c.ending = some .cancelled then .cancelled else .short, some .mediumFault, [], [numberWord c.committed]⟩ none true ∧
    (storeFaulted c s).portA.inq = s.portA.inq.dropWhile fun r => headerIsData r.header := by
  refine ⟨?_, rfl⟩
  change Op.respond (c.response c.endStatus (some .mediumFault)) none true = _
  unfold StoreCtx.response StoreCtx.endStatus
  cases c.ending with
  | none => rfl
  | some e => cases e <;> rfl

/-- Settles O47: the write's effect on a tile by `storeWriteEffect_effect`, its fault by `storeFaulted_op`. -/
theorem storeWriteEffects : Obligations.StoreWriteEffects := by
  intro c i b bt o m s hb hw hop hbt hidx ho hm hslot hoff
  refine ⟨?_, fun hr => ?_⟩
  · have hframe := writeEnded_done_frame hoff
    have hopu : (writeEnded b true s).portA.op = .store c := ((onlyNotices_writeEnded b true s).op .a).trans hop
    have hexec := exec_storeWriteComplete .done hb hw
    rw [endWrite_eq] at hexec
    have hou : (writeEnded b true s).findObject c.object = some o := by rw [hframe]; exact ho
    have hslotu : (writeEnded b true s).slot b.slot = s.slot b.slot := by rw [hframe]; rfl
    obtain ⟨hat, hobject, hdirty⟩ := storeWriteEffect_effect (bt.full && bt.taken == 16384) hou hm hslot
    rw [hslotu] at hat
    have htaken : storeWriteTaken i b.slot (WriteEnd.isDone .done) (writeEnded b (WriteEnd.isDone .done) s) =
        (storeWriteEffect c.object i b.slot (bt.full && bt.taken == 16384) (writeEnded b true s)).setOp .a
          (.store { c.modTile i (fun t => { t with writeDone := true }) with committed := c.committed + bt.taken }) := by
      simp only [storeWriteTaken, WriteEnd.isDone, hopu, hbt, if_true]
    rw [htaken] at hexec
    exact ⟨_, hexec, congrArg SlotEntry.written hat, congrArg SlotEntry.damage hat, ⟨_, rfl, rfl, rfl⟩, hobject, hdirty⟩
  · have hopu : (writeEnded b false s).portA.op = .store c := ((onlyNotices_writeEnded b false s).op .a).trans hop
    have hrestart : (writeEnded b false s).portA.restart = .none := ((onlyNotices_writeEnded b false s).restart .a).trans hr
    have hexec := exec_storeWriteComplete .mediumFault hb hw
    have htaken : storeWriteTaken i b.slot (WriteEnd.isDone .mediumFault) (writeEnded b (WriteEnd.isDone .mediumFault) s) =
        storeFaulted c (writeEnded b false s) := by
      simp only [storeWriteTaken, WriteEnd.isDone, hopu, hrestart, if_true, Bool.false_eq_true, if_false]
    rw [endWrite_eq, htaken] at hexec
    obtain ⟨hopt, hinq⟩ := storeFaulted_op (s := writeEnded b false s) c
    refine ⟨_, hexec, ⟨_, hopt, rfl⟩, hinq.trans (congrArg _ ((onlyNotices_writeEnded b false s).inq .a)), ?_⟩
    obtain ⟨x, hx⟩ := findObject_of_recounted (setBank_recounted (bankOf b.slot) .offline
      (contentAfter b false (emptyWritten b (burstOver s)))) (k := c.object) (o := o)
        (by rw [contentAfter_frame, emptyWritten_frame]; exact ho)
    exact ⟨_, hx, rfl, rfl⟩

/-! ## Damage recorded by a master's read -/

/-- A slot carries the damage mark once it is the slot marked. -/
theorem damage_setSlot (n m : Nat) : ((s.setSlot n { s.slot n with damage := true }).slot m).damage = (m == n || (s.slot m).damage) := by
  by_cases h : m = n
  · subst h
    rw [slot_setSlot_new, beq_self_eq_true, Bool.true_or]
    intro hd
    have := congrArg SlotEntry.damage hd
    unfold slotDefault at this
    split at this <;> cases this
  · rw [slot_setSlot_other _ _ h, beq_eq_false_iff_ne.mpr h, Bool.false_or]

/-- A damage notice for an object: into its entry, into a new one, or withheld (R97). -/
theorem raiseDamage_effect {n : Nat} {o : ObjectRec} {listed held : Bool} (ho : s.findObject n = some o)
    (hlisted : (s.damage.any fun d => d.object == n) = listed)
    (hheld : (!listed && !o.withheld && decide (128 ≤ s.damage.length)) = held) :
    (raiseDamage n s).findObject n = some { o with withheld := o.withheld || held } ∧
    (raiseDamage n s).overflow = (s.overflow || held) ∧
    (raiseDamage n s).damage =
      if listed then s.damage.map fun d => if d.object = n then { d with impaired := o.impairedCount } else d
      else if o.withheld || held then s.damage else s.damage ++ [damageEntry s o] := by
  obtain ⟨image, count, withheld⟩ := o
  subst hheld
  simp only [raiseDamage, ho, hlisted]
  cases listed with
  | true => cases withheld <;> exact ⟨ho, (Bool.or_false _).symm, rfl⟩
  | false =>
    cases withheld with
    | true => exact ⟨ho, (Bool.or_false _).symm, rfl⟩
    | false =>
      by_cases hlen : s.damage.length < 128
      · simp only [hlen, if_true, Bool.false_eq_true, if_false, decide_eq_false (Nat.not_le.mpr hlen)]
        exact ⟨ho, (Bool.or_false _).symm, rfl⟩
      · simp only [hlen, Bool.false_eq_true, if_false, decide_eq_true (Nat.not_lt.mp hlen)]
        exact ⟨findObject_modObject_same (f := fun o => { o with withheld := true }) (fun _ => rfl) ho, (Bool.or_true _).symm, rfl⟩

/-- A recount leaves the damage list but for the object's own entry. -/
theorem recountObject_damage {n : Nat} {o : ObjectRec} (ho : s.findObject n = some o) : (recountObject n s).damage =
    s.damage.map fun d => if d.object = n then { d with impaired := impairedTiles s o } else d := by
  refine List.map_congr_left fun d _ => ?_
  by_cases hd : d.object = n
  · rw [hd, ho, if_pos rfl]
    simp only [findObject_number ho, beq_self_eq_true, if_true]
  · rw [if_neg hd]
    cases hfind : s.findObject d.object with
    | none => rfl
    | some q =>
      have hq : (q.number == n) = false := by rw [findObject_number hfind]; exact beq_eq_false_iff_ne.mpr hd
      simp only [hq, Bool.false_eq_true, if_false]

theorem recordDamage_eq {n object index : Nat} (hst : (s.slot n).state = .assigned) (how : (s.slot n).owner = .tile object index)
    (hd : (s.slot n).damage = false) : recordDamage n s =
      raiseDamage object (recountObject object (markDirty (markGroup n) (s.setSlot n { s.slot n with damage := true }))) := by
  simp only [recordDamage, hst, how, hd]

/-- An uncorrectable read of an undamaged tile: the mark and its group. -/
theorem recordDamage_mark {n object index : Nat} (hst : (s.slot n).state = .assigned) (how : (s.slot n).owner = .tile object index)
    (hd : (s.slot n).damage = false) : ((recordDamage n s).slot n).damage = true ∧ markGroup n ∈ (recordDamage n s).dirty := by
  rw [recordDamage_eq hst how hd, raiseDamage_frame]
  refine ⟨?_, mem_dirty_mark.mpr (.inr rfl)⟩
  have h := damage_setSlot (s := s) n n
  rwa [beq_self_eq_true, Bool.true_or] at h

/-- An uncorrectable read of an undamaged tile: the object's count and its notice. -/
theorem recordDamage_object {n object index : Nat} {o : ObjectRec} {listed held : Bool} {impaired : MapEntry → Bool} {count : Nat}
    (hst : (s.slot n).state = .assigned) (how : (s.slot n).owner = .tile object index) (hd : (s.slot n).damage = false)
    (ho : s.findObject object = some o) (himp : (fun m => m.slot == n || (s.slot m.slot).damage) = impaired)
    (hcount : (o.tileMap.countP fun m => impaired m || bankOffline s (m.slot / 16384)) = count)
    (hlisted : (s.damage.any fun d => d.object == object) = listed)
    (hheld : (!listed && !o.withheld && decide (128 ≤ s.damage.length)) = held) :
    (recordDamage n s).findObject object = some { o with impairedCount := count, withheld := o.withheld || held } ∧
    (recordDamage n s).overflow = (s.overflow || held) ∧
    (recordDamage n s).damage = if listed then s.damage.map fun d => if d.object = object then { d with impaired := count } else d
      else if o.withheld || held then s.damage
      else s.damage ++ [⟨o.number, o.key, o.kind, count, o.tileMap.findIdx? impaired⟩] := by
  rw [recordDamage_eq hst how hd]
  have hdam := damage_setSlot (s := s) n
  generalize hw : markDirty (markGroup n) (s.setSlot n { s.slot n with damage := true }) = w
  have how : w.findObject object = some o := by rw [← hw]; exact ho
  have hdamw (m : Nat) : (w.slot m).damage = (m == n || (s.slot m).damage) := by rw [← hw]; exact hdam m
  have hoff (m : Nat) : slotOffline w m = bankOffline s (m / 16384) := by rw [← hw]; rfl
  have hcountw : impairedTiles w o = count := by simp only [impairedTiles, slotImpaired, hdamw, hoff, ← hcount, ← himp]
  have hdamage : (recountObject object w).damage =
      s.damage.map fun d => if d.object = object then { d with impaired := count } else d := by
    rw [recountObject_damage how, hcountw, ← hw]
    rfl
  have hfind := findObject_recountObject how
  rw [hcountw] at hfind
  have hkeys : ((recountObject object w).damage.any fun d => d.object == object) = listed := by
    rw [hdamage, List.any_map, ← hlisted]
    congr 1
    funext d
    simp only [Function.comp_apply]
    split <;> rfl
  have hlen : (recountObject object w).damage.length = s.damage.length := by rw [hdamage, List.length_map]
  obtain ⟨hobject, hoverflow, hlist⟩ := raiseDamage_effect (held := held) hfind hkeys (by rw [hlen]; exact hheld)
  refine ⟨hobject, by rw [hoverflow, ← hw]; rfl, ?_⟩
  rw [hlist, hdamage]
  cases listed with
  | true =>
    rw [if_pos rfl, if_pos rfl, List.map_map]
    refine List.map_congr_left fun d _ => ?_
    by_cases hd : d.object = object <;> simp only [Function.comp_apply, hd, if_true, if_false]
  | false =>
    have hentry : damageEntry (recountObject object w) { o with impairedCount := count } =
        ⟨o.number, o.key, o.kind, count, o.tileMap.findIdx? impaired⟩ := by
      rw [← himp]
      simp only [damageEntry, firstDamaged, show ∀ m, (recountObject object w).slot m = w.slot m from fun _ => rfl, hdamw]
    have hnone : (s.damage.map fun d => if d.object = object then { d with impaired := count } else d) = s.damage := by
      refine (List.map_congr_left fun d hd => if_neg fun heq => ?_).trans (List.map_id _)
      exact List.any_eq_false.mp hlisted d hd (beq_iff_eq.mpr heq)
    rw [if_neg Bool.false_ne_true, if_neg Bool.false_ne_true, hnone, hentry]

/-- A read that delivers its words is no fault. -/
theorem delivered_ne_fault (s : State) (n : Nat) (errors : List WordError) :
    (deliver s n (.delivered errors)).result ≠ .mediumFault := by
  unfold deliver readResult
  dsimp only
  split
  · simp
  · split <;> simp

theorem masterDamage_of_uncorrectable {n k : Nat} {r : ReadResult} (h : r = .uncorrectable k) : masterDamage n r s = recordDamage n s := by
  rw [h]; rfl

theorem masterDamage_of_other {n : Nat} {r : ReadResult} (h : ∀ k, r ≠ .uncorrectable k) : masterDamage n r s = s := by
  cases r with
  | uncorrectable k => exact absurd rfl (h k)
  | clean | corrected | bankOffline | mediumFault => rfl

/-- Settles O48: the tile enters the buffer; an uncorrectable read records its damage by `recordDamage_object`. -/
theorem readMergeEffects : Obligations.ReadMergeEffects := by
  intro c i b s hb hw hop hoff
  refine ⟨fun errors => ?_, fun hr => ?_⟩
  · have hexec := exec_readMergeComplete (.delivered errors) hb hw
    have hframe := readEnded_done_frame hoff
    have hoffu := bankOffline_readEnded hoff
    have hopu : (readEnded b true s).portA.op = .store c := ((onlyNotices_readEnded b true s).op .a).trans hop
    have htaken : storeReadTaken i b.slot (deliver s b.slot (.delivered errors)) (readEnded b true s) =
        (masterDamage b.slot (deliver s b.slot (.delivered errors)).result (readEnded b true s)).setOp .a
          (.store (c.modTile i fun t => { t with read := true, samples := (deliver s b.slot (.delivered errors)).samples })) := by
      simp only [storeReadTaken, hopu, delivered_ne_fault, if_false]
    rw [endRead_eq, spendRead_frame, show ReadEnd.isDelivered (.delivered errors) = true from rfl, htaken] at hexec
    generalize readEnded b true s = u at hexec hframe hoffu
    have hslot (m : Nat) : u.slot m = s.slot m := by rw [hframe]; rfl
    have hfind (k : Nat) : u.findObject k = s.findObject k := by rw [hframe]; rfl
    have hdamage : u.damage = s.damage := by rw [hframe]
    have hslots : u.slots = s.slots := by rw [hframe]
    have hobjects : u.objects = s.objects := by rw [hframe]
    generalize hd : deliver s b.slot (.delivered errors) = d at hexec
    refine ⟨_, hexec, rfl, ?_, ?_, ?_⟩
    · change (masterDamage b.slot d.result u).medium = _
      rw [(still_masterDamage _ _).medium, hframe]
    · intro k object index hres hst how hdam
      rw [← hslot] at hst how hdam
      rw [masterDamage_of_uncorrectable hres]
      obtain ⟨hmark, hgroup⟩ := recordDamage_mark hst how hdam
      refine ⟨hmark, hgroup, fun o ho => ?_⟩
      intro impaired count listed held
      rw [← hfind] at ho
      have himp : (fun m => m.slot == b.slot || (u.slot m.slot).damage) = impaired := funext fun m => by rw [hslot]
      have hcount : (o.tileMap.countP fun m => impaired m || bankOffline u (m.slot / 16384)) = count := by simp only [hoffu, count]
      obtain ⟨hobject, hoverflow, hlist⟩ := recordDamage_object (listed := listed) (held := held) hst how hdam ho himp hcount
        (by rw [hdamage]) (by rw [hdamage])
      rw [hdamage] at hlist
      exact ⟨hobject, hoverflow.trans (by rw [hframe]), hlist⟩
    · intro hres
      rw [masterDamage_of_other hres]
      exact ⟨hslots, hdamage, hobjects⟩
  · have hexec := exec_readMergeComplete .mediumFault hb hw
    have hnotices := onlyNotices_readEnded b false s
    have htaken : storeReadTaken i b.slot (deliver s b.slot .mediumFault) (readEnded b false s) =
        storeFaulted c (readEnded b false s) := by
      simp only [storeReadTaken, show (readEnded b false s).portA.op = .store c from (hnotices.op .a).trans hop, deliver, if_true,
        show (readEnded b false s).portA.restart = .none from (hnotices.restart .a).trans hr]
    rw [endRead_eq, show ReadEnd.isDelivered .mediumFault = false from rfl, htaken] at hexec
    obtain ⟨hopt, hinq⟩ := storeFaulted_op (s := readEnded b false s) c
    refine ⟨_, hexec, hopt, hinq.trans (congrArg _ (hnotices.inq .a)), ?_⟩
    change (readEnded b false s).medium = _
    rw [readEnded_frame]

/-! ## The end of a render's read -/

theorem renderCtx_withRender {o : Op} {c : RenderCtx} (c' : RenderCtx) (h : o.renderCtx = some c) :
    (o.withRender c').renderCtx = some c' := by
  unfold Op.renderCtx at h
  split at h <;> cases h <;> rfl

/-- The data of a read were lost. -/
def ReadResult.isLost : ReadResult → Bool
  | .clean | .corrected _ => false
  | .uncorrectable _ | .bankOffline | .mediumFault => true

/-- The words a read corrected. -/
def ReadResult.correctedWords : ReadResult → Nat
  | .corrected n | .uncorrectable n => n
  | .clean | .bankOffline | .mediumFault => 0

theorem takeRead_eq (c : RenderCtx) (tile : Nat) (d : Delivery) (damaged : Bool) : c.takeRead tile d damaged =
    c.takeTile tile (if d.result.isLost || damaged then .fill else .computed d.samples) (d.result.isLost || damaged) false
      d.result.correctedWords := by
  unfold RenderCtx.takeRead
  cases d.result <;> rfl

theorem renderReadTaken_eq {c : RenderCtx} {o : ObjectRec} {tile : Nat} (n : Nat) (d : Delivery)
    (hop : (s.port p).op.renderCtx = some c) (ho : s.findObject c.object = some o) (htile : c.nextTile o = some tile) :
    renderReadTaken p n d s =
      (masterDamage n d.result s).setOp p ((s.port p).op.withRender (c.takeRead tile d (s.slot n).damage)) := by
  simp only [renderReadTaken, hop, ho, htile]

/-- Where a render's read ends: the object still has its next tile, and the slot's damage mark is as it was unless the data are lost
anyway. -/
theorem readEnded_render {o : ObjectRec} {k : Nat} (r : ReadEnd) (ho : s.findObject k = some o)
    (hoff : bankOffline s (b.slot / 16384) = false) :
    (∃ x, (readEnded b (ReadEnd.isDelivered r) s).findObject k = some { o with impairedCount := x }) ∧
      ((deliver s b.slot r).result.isLost || ((readEnded b (ReadEnd.isDelivered r) s).slot b.slot).damage) =
        ((deliver s b.slot r).result.isLost || (s.slot b.slot).damage) := by
  cases r with
  | delivered errors =>
    rw [show ReadEnd.isDelivered (.delivered errors) = true from rfl, readEnded_done_frame hoff]
    exact ⟨⟨o.impairedCount, ho⟩, rfl⟩
  | mediumFault =>
    exact ⟨findObject_of_recounted (setBank_recounted (bankOf b.slot) .offline (burstOver s)) ho, rfl⟩

/-- Settles O49: the tile's turn ends by `takeRead_eq`, in the render that the end of the burst left on the port. -/
theorem renderReadClasses : Obligations.RenderReadClasses := by
  intro p c o tile b r s hb hw hop ho htile hoff d lost corrected fill
  have hlost : d.result.isLost = lost := by dsimp only [lost]; cases d.result <;> rfl
  have hcorrected : d.result.correctedWords = corrected := by dsimp only [corrected]; cases d.result <;> rfl
  obtain ⟨⟨x, hox⟩, hfill⟩ := readEnded_render r ho hoff
  have hopu : ((readEnded b (ReadEnd.isDelivered r) s).port p).op = (s.port p).op := (onlyNotices_readEnded b _ s).op p
  have hexec := exec_renderReadComplete r hb hw
  rw [endRead_eq, spendRead_frame, renderReadTaken_eq (o := { o with impairedCount := x }) b.slot _ (by rw [hopu]; exact hop) hox
    htile, takeRead_eq, hfill, hopu, hlost, hcorrected] at hexec
  refine ⟨_, c.takeTile tile (if fill then .fill else .computed d.samples) fill false corrected, hexec, ?_, rfl, rfl, rfl, rfl, rfl,
    ?_⟩
  · cases p <;> exact renderCtx_withRender _ hop
  · change ((masterDamage b.slot d.result (readEnded b (ReadEnd.isDelivered r) s)).setOp p _).medium = _
    rw [setOp_medium, (still_masterDamage _ _).medium, readEnded_frame]

end Sys2Proof.Machine
end

section
/-!
PROOF. The start of write bursts, write-backs and relocations: O51 and O52.
-/

namespace Sys2Proof.Machine

open Sys2Proof

variable {s t u : State} {p q : Port} {b : Burst}

/-! ## The start of a write burst -/

theorem startWrite_slot (n : Nat) (h : Assoc.wf slotDefault s.slots = true) : (startWrite n s).slot n =
    { s.slot n with generation := (s.slot n).generation + 1, count := 0, relocationPending := false } := by
  have hset := slot_setSlot_same s n { s.slot n with generation := (s.slot n).generation + 1, count := 0, relocationPending := false } h
  unfold startWrite
  dsimp only
  split <;> exact hset

theorem startWrite_slot_other {n m : Nat} (h : m ≠ n) : (startWrite n s).slot m = s.slot m := by
  have hset := slot_setSlot_other s
    { s.slot n with generation := (s.slot n).generation + 1, count := 0, relocationPending := false } h
  unfold startWrite
  dsimp only
  split <;> exact hset

theorem startWrite_dirty (n g : Nat) : g ∈ (startWrite n s).dirty ↔ g ∈ s.dirty ∨ ((s.slot n).count ≠ 0 ∧ g = markGroup n) := by
  unfold startWrite
  dsimp only
  split
  · next h => simp [h]
  · next h =>
    rw [mem_dirty_mark]
    simp [h]

theorem wf_startWrite (n : Nat) (h : Assoc.wf slotDefault s.slots = true) : Assoc.wf slotDefault (startWrite n s).slots = true := by
  have hset := wf_setSlot s n { s.slot n with generation := (s.slot n).generation + 1, count := 0, relocationPending := false } h
  unfold startWrite
  dsimp only
  split <;> exact hset

/-- What the drop of a copy leaves of every slot. -/
theorem dropCopy_slot (h : Assoc.wf slotDefault s.slots = true) (n : Nat) :
    ((dropCopy s).slot n).generation = (s.slot n).generation ∧ ((dropCopy s).slot n).count = (s.slot n).count ∧
      ((dropCopy s).slot n).relocationPending = (s.slot n).relocationPending := by
  have hreturn (target : Nat) : ((returnTarget target s).slot n).generation = (s.slot n).generation ∧
      ((returnTarget target s).slot n).count = (s.slot n).count ∧
      ((returnTarget target s).slot n).relocationPending = (s.slot n).relocationPending := by
    have hset := slot_setSlot_same s target { s.slot target with state := .free, owner := .none, written := false } h
    have hother := fun hn => slot_setSlot_other (m := n) s
      { s.slot target with state := .free, owner := .none, written := false } (n := target) hn
    by_cases hn : n = target
    · subst hn
      change ((s.setSlot n _).slot n).generation = _ ∧ ((s.setSlot n _).slot n).count = _ ∧ ((s.setSlot n _).slot n).relocationPending = _
      rw [hset]
      exact ⟨rfl, rfl, rfl⟩
    · change ((s.setSlot target _).slot n).generation = _ ∧ ((s.setSlot target _).slot n).count = _ ∧
        ((s.setSlot target _).slot n).relocationPending = _
      rw [hother hn]
      exact ⟨rfl, rfl, rfl⟩
  unfold dropCopy
  split
  · exact ⟨rfl, rfl, rfl⟩
  · dsimp only
    split
    · exact ⟨rfl, rfl, rfl⟩
    · exact hreturn _

theorem dropCopy_relocations (s : State) : (dropCopy s).relocations = s.relocations := by rw [dropCopy_frame]

theorem wf_dropCopy (h : Assoc.wf slotDefault s.slots = true) : Assoc.wf slotDefault (dropCopy s).slots = true := by
  unfold dropCopy
  split
  · exact h
  · dsimp only
    split
    · exact h
    · exact wf_setSlot _ _ _ h

/-- The slot of a write burst that starts, from `s` to `t`. -/
structure SlotStarts (n : Nat) (s t : State) : Prop where
  generation : (t.slot n).generation = (s.slot n).generation + 1
  count : (t.slot n).count = 0
  pending : (t.slot n).relocationPending = false
  unlisted : n ∉ t.relocations

theorem slotStarts_startWrite (n : Nat) (h : Assoc.wf slotDefault s.slots = true) : SlotStarts n s (startWrite n s) := by
  have hslot := startWrite_slot n h
  exact ⟨congrArg SlotEntry.generation hslot, congrArg SlotEntry.count hslot, congrArg SlotEntry.relocationPending hslot,
    startWrite_not_mem n s⟩

theorem SlotStarts.of_same {n : Nat} {s' t' : State} (h : SlotStarts n s t) (hs : (s'.slot n).generation = (s.slot n).generation)
    (ht : t'.slot n = t.slot n) (hr : t'.relocations = t.relocations) : SlotStarts n s' t' :=
  ⟨by rw [ht, hs, h.generation], by rw [ht, h.count], by rw [ht, h.pending], by rw [hr]; exact h.unlisted⟩

/-- A burst in flight in `t` that writes has started from `s`. -/
def WriteStarts (s t : State) : Prop := ∀ b content, t.burst = some b → b.content = some content → SlotStarts b.slot s t

theorem writeStarts_of_none (h : t.burst = none) : WriteStarts s t := fun b content hb => by rw [h] at hb; cases hb

theorem writeStarts_startBurst_read (w : BurstWork) (n : Nat) : WriteStarts s (startBurst w n none t) := by
  intro b content hb hc
  obtain rfl := Option.some.inj hb
  cases hc

theorem writeStarts_startBurst {w : BurstWork} {n : Nat} {content : Option SlotContent} (h : SlotStarts n s t) :
    WriteStarts s (startBurst w n content t) := by
  intro b content hb hc
  obtain rfl := Option.some.inj hb
  exact h.of_same rfl rfl rfl

theorem carryWait_frame (p : Port) (s : State) :
    carryWait p s = { s with portA := (carryWait p s).portA, portB := (carryWait p s).portB } := by
  unfold carryWait
  split
  · cases p <;> rfl
  · split
    · cases p <;> rfl
    · cases p <;> rfl
    · rfl
  all_goals rfl

section
variable (hwf : Assoc.wf slotDefault s.slots = true)
include hwf

theorem writeStarts_startBillingFlush : WriteStarts s (startBillingFlush s) := by
  have hcarried : (carryWait .b (carryWait .a { s with billingPending := false })).slots = s.slots := by
    rw [carryWait_frame .b, carryWait_frame .a]
  refine writeStarts_startBurst ((slotStarts_startWrite 1 (by rw [hcarried]; exact hwf)).of_same ?_ rfl rfl)
  exact congrArg SlotEntry.generation (by rw [State.slot, State.slot, hcarried])

theorem writeStarts_startCatalogueFlush (g : Nat) : WriteStarts s (startCatalogueFlush g s) :=
  writeStarts_startBurst ((slotStarts_startWrite (s := { s with dirty := s.dirty.filter (· != g) }) g hwf).of_same rfl rfl rfl)

theorem writeStarts_startCopy (c : Copy) : WriteStarts s (startCopy c s) := by
  unfold startCopy
  dsimp only
  split
  · exact writeStarts_startBurst ((slotStarts_startWrite _ hwf).of_same rfl rfl rfl)
  · exact writeStarts_startBurst ((slotStarts_startWrite _ hwf).of_same rfl rfl rfl)

theorem writeStarts_startWork (w : UpkeepWork) (hb : s.burst = none) : WriteStarts s (startWork w s) := by
  cases w with
  | billing => exact writeStarts_startBillingFlush hwf
  | copy c => exact writeStarts_startCopy hwf c
  | relocate old =>
    unfold startWork startRelocation
    dsimp only
    split
    · exact writeStarts_of_none hb
    · exact writeStarts_startBurst_read _ _
  | flush g => exact writeStarts_startCatalogueFlush hwf g
  | scrub n => exact writeStarts_startBurst_read _ _

theorem writeStarts_startUpkeep (hb : s.burst = none) : WriteStarts s (startUpkeep s) := by
  unfold startUpkeep
  split
  · exact writeStarts_of_none hb
  · split
    · exact writeStarts_startCopy hwf _
    · have hdrop : (dropCopy s).burst = none := by rw [dropCopy_frame]; exact hb
      dsimp only
      split
      · exact writeStarts_of_none hdrop
      · intro b content hburst hc
        exact (writeStarts_startWork (wf_dropCopy hwf) _ hdrop b content hburst hc).of_same (dropCopy_slot hwf _).1.symm rfl rfl
  · exact writeStarts_startWork hwf _ hb

theorem slotStarts_storeWriteStart (object n : Nat) : SlotStarts n s (storeWriteStart object n s) := by
  have hstart := slotStarts_startWrite n hwf
  have hdrop : SlotStarts n s (dropCopy (startWrite n s)) := by
    obtain ⟨hg, hc, hp⟩ := dropCopy_slot (wf_startWrite n hwf) n
    exact ⟨hg.trans hstart.generation, hc.trans hstart.count, hp.trans hstart.pending,
      by rw [dropCopy_relocations]; exact hstart.unlisted⟩
  unfold storeWriteStart
  dsimp only
  repeat' split
  · exact hdrop
  · exact hstart
  · exact hstart
  · exact hdrop.of_same rfl rfl rfl
  · exact hstart.of_same rfl rfl rfl
  · exact hstart.of_same rfl rfl rfl

theorem writeStarts_grantPort (hb : s.burst = none) : WriteStarts s (grantPort p s) := by
  unfold grantPort
  split
  · split
    · split
      · exact writeStarts_of_none hb
      · dsimp only
        split
        · exact writeStarts_of_none ((still_storeReadTaken ..).burst.trans hb)
        · exact writeStarts_startBurst_read _ _
    · exact writeStarts_of_none hb
    · split
      · exact writeStarts_of_none hb
      · dsimp only
        split
        · exact writeStarts_of_none ((still_storeWriteTaken ..).burst.trans hb)
        · exact writeStarts_startBurst ((slotStarts_storeWriteStart hwf _ _).of_same rfl rfl rfl)
  · exact writeStarts_startBurst_read _ _
  · split
    · exact writeStarts_of_none hb
    · split
      · exact writeStarts_of_none hb
      · split
        · exact writeStarts_of_none hb
        · dsimp only
          split
          · exact writeStarts_of_none ((still_renderReadTaken ..).burst.trans hb)
          · exact writeStarts_startBurst_read _ _

theorem writeStarts_grant (r : Requester) (hb : s.burst = none) : WriteStarts s (grant r s) := by
  cases r with
  | port q => exact writeStarts_grantPort hwf hb
  | upkeep =>
    unfold grant
    dsimp only
    split
    · exact fun b content hburst hc => (writeStarts_startUpkeep hwf hb b content hburst hc).of_same rfl rfl rfl
    · exact writeStarts_startUpkeep hwf hb

theorem writeStarts_prepStart (h : prepStart s = some t) : WriteStarts s t := by
  unfold prepStart at h
  split at h
  · cases h
  · split at h <;> cases h
    · exact writeStarts_startBurst_read _ _
    · exact writeStarts_startBurst_read _ _
    · exact writeStarts_startBurst (slotStarts_startWrite _ hwf)
    · exact writeStarts_startBurst_read _ _

end

/-! ## The end of a write-back -/

theorem emptyWritten_buffer (h : ∃ o d, b.work = .writeback o d ∨ b.work = .relocationWrite o d) (s : State) :
    (emptyWritten b s).upkeep.buffer = none := by
  obtain ⟨o, d, h | h⟩ := h <;> simp only [emptyWritten, h]

/-- A slot that may join the relocation list. -/
def mayJoin (s : State) (n : Nat) : Prop :=
  (s.slot n).count = 3 ∧ (s.slot n).state = .assigned ∧ 512 ≤ n ∧ n ∉ s.relocations ∧ slotOffline s n = false ∧
    s.relocations.length < 16

theorem joinRelocations_of_may {n : Nat} (h : mayJoin s n) : joinRelocations n s =
    { s.setSlot n { s.slot n with relocationPending := true } with relocations := s.relocations ++ [n] } := if_pos h

theorem joinRelocations_of_not {n : Nat} (h : ¬ mayJoin s n) : joinRelocations n s = s := if_neg h

theorem joinRelocations_slot_of_may {n : Nat} (h : mayJoin s n) :
    (joinRelocations n s).slot n = { s.slot n with relocationPending := true } := by
  rw [joinRelocations_of_may h]
  refine slot_setSlot_new s fun hd => ?_
  have := congrArg SlotEntry.relocationPending hd
  unfold slotDefault at this
  split at this <;> cases this

/-- Joining the list changes of a slot its mark alone. -/
theorem joinRelocations_slot (n : Nat) (s : State) : ∃ pending, (joinRelocations n s).slot n = { s.slot n with relocationPending := pending } := by
  by_cases h : mayJoin s n
  · exact ⟨true, joinRelocations_slot_of_may h⟩
  · rw [joinRelocations_of_not h]
    exact ⟨_, rfl⟩

theorem joinRelocations_dirty (n : Nat) (s : State) : (joinRelocations n s).dirty = s.dirty := by rw [joinRelocations_frame]

/-- Settles O51: `startWrite_slot` for the write itself, `writeStarts_grant` for every burst that starts, and the write-back's end
by the equations of `joinRelocations`. -/
theorem writebackOutcome : Obligations.WritebackOutcome := by
  refine ⟨fun n s hwf => ⟨startWrite_frame n s, startWrite_slot n hwf, fun m hm => startWrite_slot_other hm, startWrite_dirty n⟩,
    fun r s t b content hwf hb hstart ht hc => ?_, fun b kept dropped s hb hw hoff hlow => ?_⟩
  · have hstarts : WriteStarts s t := by
      rcases hstart with rfl | h
      · exact writeStarts_grant hwf r hb
      · exact writeStarts_prepStart hwf h
    obtain ⟨hg, hcount, hpending, hlist⟩ := hstarts b content ht hc
    exact ⟨hg, hcount, hpending, hlist⟩
  · have hexec := exec_writebackComplete .done hb hw
    have hframe := writeEnded_done_frame hoff
    have hoffu := bankOffline_writeEnded hoff
    rw [endWrite_eq, show WriteEnd.isDone .done = true from rfl] at hexec
    have hbuffer : (writeEnded b true s).upkeep.buffer = none := by
      rw [hframe]
      exact emptyWritten_buffer ⟨_, _, .inl hw⟩ _
    generalize writeEnded b true s = u at hexec hframe hoffu hbuffer
    refine ⟨_, hexec, ?_, fun hd hwf => ?_, fun hd => ?_⟩
    · unfold writebackTaken
      split
      · exact hbuffer
      · rw [joinRelocations_frame]
        exact hbuffer
    · subst hd
      have hslotu (m : Nat) : u.slot m = s.slot m := by rw [hframe]; rfl
      have hwfu : Assoc.wf slotDefault u.slots = true := by rw [hframe]; exact hwf
      have hset := slot_setSlot_same u b.slot { u.slot b.slot with count := min 3 (kept + 1) } hwfu
      have htaken : writebackTaken b.slot kept false true u = joinRelocations b.slot
          (markDirty (markGroup b.slot) (u.setSlot b.slot { u.slot b.slot with count := min 3 (kept + 1) })) := rfl
      rw [htaken]
      generalize hv : markDirty (markGroup b.slot) (u.setSlot b.slot { u.slot b.slot with count := min 3 (kept + 1) }) = v
      have hvslot : v.slot b.slot = { s.slot b.slot with count := min 3 (kept + 1) } := by
        rw [← hv, ← hslotu]
        exact hset
      have hvrel : v.relocations = s.relocations := by rw [← hv, hframe]; rfl
      have hvdirty : markGroup b.slot ∈ v.dirty := by rw [← hv]; exact mem_dirty_mark.mpr (.inr rfl)
      have hvoff : slotOffline v b.slot = false := by rw [← hv]; exact (hoffu _).trans hoff
      have hmay : mayJoin v b.slot ↔ 2 ≤ kept ∧ (s.slot b.slot).state = .assigned ∧ b.slot ∉ s.relocations ∧ s.relocations.length < 16 := by
        unfold mayJoin
        rw [hvslot, hvrel]
        dsimp only
        constructor
        · rintro ⟨hc, hst, -, hm, -, hlen⟩
          exact ⟨by omega, hst, hm, hlen⟩
        · rintro ⟨hk, hst, hm, hlen⟩
          exact ⟨by omega, hst, hlow, hm, hvoff, hlen⟩
      obtain ⟨pending, hjoin⟩ := joinRelocations_slot b.slot v
      rw [hvslot] at hjoin
      refine ⟨by rw [hjoin], by rw [hjoin], by rw [hjoin],
        by rw [joinRelocations_dirty]; exact hvdirty, fun hk hst hm hlen => ?_, fun hk => ?_⟩
      · have h := hmay.mpr ⟨hk, hst, hm, hlen⟩
        rw [joinRelocations_slot_of_may h, joinRelocations_of_may h]
        exact ⟨by rw [← hvrel], rfl⟩
      · rw [joinRelocations_of_not (fun h => by obtain ⟨hk', -⟩ := hmay.mp h; omega), hvrel]
    · subst hd
      rw [show writebackTaken b.slot kept true true u = u from rfl, hframe]
      exact ⟨rfl, rfl, rfl⟩

/-! ## A relocation's read and write -/

/-- A bank's change of state drops no copy where there is none. -/
theorem setBank_empty_frame {n : Nat} {st : BankState} (h : s.upkeep.buffer = none) :
    (setBank n st s).pool = s.pool ∧ (setBank n st s).upkeep = s.upkeep ∧ (setBank n st s).slots = s.slots := by
  by_cases hb : s.banks.getD n .online = st
  · rw [setBank_of_eq hb]
    exact ⟨rfl, rfl, rfl⟩
  · rw [setBank_of_ne hb]
    have hraised : raiseBank n .b (raiseBank n .a { s with banks := s.banks.set n st }) = { s with
        banks := s.banks.set n st
        portA := (raiseBank n .b (raiseBank n .a { s with banks := s.banks.set n st })).portA
        portB := (raiseBank n .b (raiseBank n .a { s with banks := s.banks.set n st })).portB } :=
      (raiseBank_frame n .b _).trans (by rw [raiseBank_frame n .a])
    generalize raiseBank n .b (raiseBank n .a { s with banks := s.banks.set n st }) = v at hraised ⊢
    split
    · have hdrop : bankCrossed n v = recountWhere (hasTileIn n) v := by
        have hbuffer : (recountWhere (hasTileIn n) v).upkeep.buffer = none := by
          change v.upkeep.buffer = none
          rw [hraised]
          exact h
        change dropIfOffline (recountWhere (hasTileIn n) v) = _
        simp only [dropIfOffline, hbuffer]
      rw [hdrop]
      change v.pool = _ ∧ v.upkeep = _ ∧ v.slots = _
      rw [hraised]
      exact ⟨rfl, rfl, rfl⟩
    · rw [hraised]
      exact ⟨rfl, rfl, rfl⟩

theorem placesCopy_of_ready (h : s.device = .ready) : placesCopy false s = true := by simp [placesCopy, h]

theorem spendRead_upkeep (r : ReadEnd) (s : State) : (spendRead r s).upkeep = s.upkeep ∧ (spendRead r s).pool = s.pool ∧
    (spendRead r s).relocations = s.relocations := by
  rw [spendRead_frame]
  exact ⟨rfl, rfl, rfl⟩

/-- A relocation's read that delivers its words places its copy. -/
theorem relocationReadTaken_ready {n target : Nat} {g : BitVec 8} (d : Delivery) (hready : s.device = .ready)
    (hd : d.result ≠ .mediumFault) :
    (relocationReadTaken n target g false false d s).upkeep.buffer = some ⟨n, g, d.samples, .relocation target⟩ ∧
      (relocationReadTaken n target g false false d s).pool = s.pool ∧
      (relocationReadTaken n target g false false d s).relocations = s.relocations := by
  have hplace : placesCopy false (recordDamage n s) = true := placesCopy_of_ready (by rw [recordDamage_frame]; exact hready)
  unfold relocationReadTaken
  rw [Bool.false_or, if_neg (by simpa using hd)]
  dsimp only
  split
  · rw [if_pos hplace, recordDamage_frame]
    exact ⟨rfl, rfl, rfl⟩
  · rw [if_pos (placesCopy_of_ready hready)]
    exact ⟨rfl, rfl, rfl⟩

theorem owner_ne_default {e : SlotEntry} {object index n : Nat} (h : e.owner = .tile object index) : e ≠ slotDefault n := by
  rintro rfl
  unfold slotDefault at h
  split at h <;> cases h

theorem retired_ne_default {e : SlotEntry} {n : Nat} (h : e.state = .retired) : e ≠ slotDefault n := by
  rintro rfl
  unfold slotDefault at h
  split at h <;> cases h

/-- Leaving the relocation list changes of a tile's slot its mark alone. -/
theorem leaveRelocations_slot {n object index : Nat} (h : (s.slot n).owner = .tile object index) :
    (∃ pending, (leaveRelocations n s).slot n = { s.slot n with relocationPending := pending }) ∧
      ∀ m, m ≠ n → (leaveRelocations n s).slot m = s.slot m := by
  unfold leaveRelocations
  split
  · exact ⟨⟨_, slot_setSlot_new s (owner_ne_default (object := object) (index := index) h)⟩, fun m hm => slot_setSlot_other s _ hm⟩
  · exact ⟨⟨_, rfl⟩, fun _ _ => rfl⟩

theorem leaveRelocations_objects (n : Nat) (s : State) : (leaveRelocations n s).objects = s.objects := by
  rw [leaveRelocations_frame]

theorem leaveRelocations_upkeep (n : Nat) (s : State) : (leaveRelocations n s).upkeep = s.upkeep := by
  rw [leaveRelocations_frame]

theorem retireSlot_slot {n : Nat} : (retireSlot n s).slot n = { s.slot n with state := .retired, owner := .none, relocationPending := false } :=
  slot_setSlot_new s (retired_ne_default (e := { s.slot n with state := .retired, owner := .none, relocationPending := false }) rfl)

/-- The first half of a switch: the target has the tile and its marks, and the tile map names the target. -/
def tileHanded (old target object index : Nat) (s : State) : State :=
  (s.setSlot target { s.slot target with
    owner := .tile object index, written := (s.slot old).written, damage := (s.slot old).damage, count := 0 }).modObject object fun o =>
      { o with tileMap := o.tileMap.set index ⟨target, (s.slot old).written⟩ }

theorem switchTile_eq (old target object index : Nat) (s : State) : switchTile old target object index s =
    markDirty (markGroup target) (markDirty (objectGroup object) (recountObject object
      (retireSlot old (leaveRelocations old (tileHanded old target object index s))))) := rfl

theorem switchTile_upkeep (old target object index : Nat) (s : State) : (switchTile old target object index s).upkeep = s.upkeep := by
  have hrecount (v : State) : (recountObject object v).upkeep = v.upkeep := rfl
  have hretire (v : State) : (retireSlot old v).upkeep = v.upkeep := rfl
  rw [switchTile_eq, markDirty_upkeep, markDirty_upkeep, hrecount, hretire, leaveRelocations_upkeep]
  rfl

/-- The switch of a tile from its old slot to its target. -/
theorem switchTile_effect {old target object index : Nat} {o : ObjectRec} (how : (s.slot old).owner = .tile object index)
    (ho : s.findObject object = some o) (hne : target ≠ old) :
    ((switchTile old target object index s).slot target = { s.slot target with
      owner := .tile object index, written := (s.slot old).written, damage := (s.slot old).damage, count := 0 }) ∧
    ((switchTile old target object index s).slot old = { s.slot old with
      state := .retired, owner := .none, relocationPending := false }) ∧
    old ∉ (switchTile old target object index s).relocations ∧
    (∃ o', (switchTile old target object index s).findObject object = some o' ∧
      o'.tileMap = o.tileMap.set index ⟨target, (s.slot old).written⟩) ∧
    objectGroup object ∈ (switchTile old target object index s).dirty ∧
    markGroup old ∈ (switchTile old target object index s).dirty ∧ markGroup target ∈ (switchTile old target object index s).dirty := by
  rw [switchTile_eq]
  have htarget : (tileHanded old target object index s).slot target = { s.slot target with
      owner := .tile object index, written := (s.slot old).written, damage := (s.slot old).damage, count := 0 } :=
    slot_setSlot_new s (owner_ne_default (object := object) (index := index) rfl)
  have hold : (tileHanded old target object index s).slot old = s.slot old := slot_setSlot_other s _ hne.symm
  have hobject : (tileHanded old target object index s).findObject object =
      some { o with tileMap := o.tileMap.set index ⟨target, (s.slot old).written⟩ } :=
    findObject_modObject_same (f := fun o => { o with tileMap := o.tileMap.set index ⟨target, (s.slot old).written⟩ })
      (fun _ => rfl) ho
  generalize tileHanded old target object index s = v at htarget hold hobject ⊢
  obtain ⟨⟨pending, hleft⟩, hleftOther⟩ := leaveRelocations_slot (s := v) (by rw [hold]; exact how)
  have hunlisted := leaveRelocations_not_mem old v
  have hfind : (leaveRelocations old v).findObject object = v.findObject object := by
    simp only [State.findObject, leaveRelocations_objects]
  generalize leaveRelocations old v = w at hleft hleftOther hunlisted hfind ⊢
  have hretired := retireSlot_slot (n := old) (s := w)
  rw [hleft, hold] at hretired
  have hkept : (retireSlot old w).slot target = w.slot target := slot_setSlot_other w _ hne
  rw [hleftOther _ hne, htarget] at hkept
  have hdirty : markGroup old ∈ (retireSlot old w).dirty := mem_dirty_mark.mpr (.inr rfl)
  have hobjectw : (retireSlot old w).findObject object = v.findObject object := hfind
  rw [hobject] at hobjectw
  exact ⟨hkept, hretired, hunlisted, ⟨_, findObject_recountObject hobjectw, rfl⟩, mem_dirty_mark.mpr (.inl (mem_dirty_mark.mpr (.inr rfl))),
    mem_dirty_mark.mpr (.inl (mem_dirty_mark.mpr (.inl hdirty))), mem_dirty_mark.mpr (.inr rfl)⟩

/-- The write of a relocation that faulted: no copy is left, and the pool stands. -/
theorem writeEnded_relocation_fault {old : Nat} {dropped : Bool} (hw : b.work = .relocationWrite old dropped) :
    (writeEnded b false s).pool = s.pool ∧ (writeEnded b false s).upkeep.buffer = none := by
  have hbuffer : (contentAfter b false (emptyWritten b (burstOver s))).upkeep.buffer = none := by
    rw [contentAfter_frame]
    exact emptyWritten_buffer ⟨_, _, .inr hw⟩ _
  obtain ⟨hpool, hupkeep, -⟩ := setBank_empty_frame (n := bankOf b.slot) (st := .offline) hbuffer
  refine ⟨hpool.trans ?_, (congrArg Upkeep.buffer hupkeep).trans hbuffer⟩
  rw [contentAfter_frame, emptyWritten_frame]
  rfl

/-- Settles O52: the copy by `relocationReadTaken_ready`, the switch by `switchTile_effect`; a fault gives the target back. -/
theorem relocationMovesTile : Obligations.RelocationMovesTile := by
  refine ⟨fun b target g errors s hb hw hready hoff => ?_, fun b target g noCopy s hb hbuffer hw => ?_,
    fun b old object index o s hb hw hoff => ⟨fun how ho hi hne => ?_, ?_⟩⟩
  · have hframe := readEnded_done_frame hoff
    have hexec := exec_relocationReadComplete (.delivered errors) hb hw
    rw [endRead_eq, show ReadEnd.isDelivered (.delivered errors) = true from rfl] at hexec
    generalize readEnded b true s = u at hexec hframe
    obtain ⟨hcopy, hpool, hrel⟩ := relocationReadTaken_ready (s := u) (n := b.slot) (target := target) (g := g)
      (deliver s b.slot (.delivered errors)) (by rw [hframe]; exact hready) (delivered_ne_fault s b.slot errors)
    refine ⟨_, hexec, ?_⟩
    obtain ⟨hu, hp, hr⟩ := spendRead_upkeep (.delivered errors)
      (relocationReadTaken b.slot target g false false (deliver s b.slot (.delivered errors)) u)
    rw [hu, hp, hr, hpool, hrel, hframe]
    rw [hframe] at hcopy
    exact ⟨hcopy, rfl, rfl⟩
  · have hexec := exec_relocationReadComplete .mediumFault hb hw
    have htaken (v : State) : relocationReadTaken b.slot target g false noCopy (deliver s b.slot .mediumFault) v = returnTarget target v := by
      simp only [relocationReadTaken, deliver, beq_self_eq_true, Bool.or_true, if_true]
    rw [endRead_eq, htaken, show ReadEnd.isDelivered .mediumFault = false from rfl] at hexec
    obtain ⟨hpool, hupkeep, -⟩ := setBank_empty_frame (s := burstOver s) (n := bankOf b.slot) (st := .offline) hbuffer
    refine ⟨_, hexec, congrArg (· ++ [target]) hpool, ?_, (congrArg Upkeep.buffer hupkeep).trans hbuffer⟩
    change (readEnded b false s).relocations = _
    rw [readEnded_frame]
  · have hframe := writeEnded_done_frame hoff
    have hexec := exec_relocationWriteComplete .done hb hw
    rw [endWrite_eq, show WriteEnd.isDone .done = true from rfl] at hexec
    have hbuffer : (writeEnded b true s).upkeep.buffer = none := by
      rw [hframe]
      exact emptyWritten_buffer ⟨_, _, .inr hw⟩ _
    generalize writeEnded b true s = u at hexec hframe hbuffer
    have hslot (m : Nat) : u.slot m = s.slot m := by rw [hframe]; rfl
    have howu : (u.slot old).owner = .tile object index := by rw [hslot]; exact how
    have htaken : relocationWriteTaken old b.slot false true u = switchTile old b.slot object index u := by
      simp only [relocationWriteTaken, Bool.not_true, Bool.or_false, Bool.false_eq_true, if_false, howu]
    obtain ⟨htarget, hold, hunlisted, hobject, hdo, hdm, hdt⟩ :=
      switchTile_effect howu (show u.findObject object = some o by rw [hframe]; exact ho) hne
    rw [htaken] at hexec
    rw [hslot, hslot] at htarget
    rw [hslot] at hold hobject
    refine ⟨_, hexec, by rw [switchTile_upkeep]; exact hbuffer, ?_⟩
    rw [htarget, hold]
    exact ⟨rfl, rfl, rfl, rfl, rfl, rfl, rfl, rfl, hunlisted, hobject, hdo, hdm, hdt⟩
  · have hexec := exec_relocationWriteComplete .mediumFault hb hw
    rw [endWrite_eq, show WriteEnd.isDone .mediumFault = false from rfl] at hexec
    obtain ⟨hpool, hbuffer⟩ := writeEnded_relocation_fault (s := s) hw
    refine ⟨_, hexec, congrArg (· ++ [b.slot]) hpool, ?_, hbuffer⟩
    change (writeEnded b false s).relocations = _
    rw [writeEnded_frame]

end Sys2Proof.Machine
end

section
/-!
PROOF. Scrub visits: the search for the slot visited, and the outcomes of a visit: O50.
-/

namespace Sys2Proof.Machine

open Sys2Proof

variable {s t u : State} {p q : Port} {b : Burst}

/-! ## The search -/

/-- How far above `i` the slot `m` lies, wrapping at `size`. -/
def away (size i m : Nat) : Nat := (m + size - i) % size

theorem away_add {size i k : Nat} (hi : i < size) (hk : k < size) : away size i ((i + k) % size) = k := by
  unfold away
  rcases Nat.lt_or_ge (i + k) size with h | h
  · rw [Nat.mod_eq_of_lt h, show i + k + size - i = k + size by omega, Nat.add_mod_right, Nat.mod_eq_of_lt hk]
  · rw [Nat.mod_eq_sub_mod h, Nat.mod_eq_of_lt (by omega : i + k - size < size), show i + k - size + size - i = k by omega,
      Nat.mod_eq_of_lt hk]

theorem add_away {size i m : Nat} (hi : i < size) (hm : m < size) : (i + away size i m) % size = m := by
  unfold away
  rw [Nat.add_mod_mod, show i + (m + size - i) = m + size by omega, Nat.add_mod_right, Nat.mod_eq_of_lt hm]

theorem away_lt {size i m : Nat} (hi : i < size) : away size i m < size := Nat.mod_lt _ (by omega)

/-- The first eligible slot among `fuel` ones from `i` on. -/
theorem searchEligible_some {fuel i n : Nat} (h : searchEligible s fuel (i % configuredSlots s) = some n) :
    ∃ k < fuel, n = (i + k) % configuredSlots s ∧ eligible s n = true ∧
      ∀ j < k, eligible s ((i + j) % configuredSlots s) = false := by
  induction fuel generalizing i with
  | zero => cases h
  | succ fuel ih =>
    rw [searchEligible] at h
    split at h
    · next he =>
      obtain rfl := Option.some.inj h
      exact ⟨0, by omega, rfl, he, fun j hj => absurd hj (Nat.not_lt_zero j)⟩
    · next he =>
      rw [Nat.mod_add_mod] at h
      obtain ⟨k, hk, hn, hen, hbefore⟩ := ih h
      refine ⟨k + 1, by omega, by rw [hn, Nat.add_right_comm, Nat.add_assoc], hen, fun j hj => ?_⟩
      cases j with
      | zero => simpa using he
      | succ j => rw [← Nat.add_assoc, Nat.add_right_comm]; exact hbefore j (by omega)

theorem searchEligible_none {fuel i : Nat} (h : searchEligible s fuel (i % configuredSlots s) = none) :
    ∀ j < fuel, eligible s ((i + j) % configuredSlots s) = false := by
  induction fuel generalizing i with
  | zero => exact fun j hj => absurd hj (Nat.not_lt_zero j)
  | succ fuel ih =>
    rw [searchEligible] at h
    split at h
    · cases h
    · next he =>
      rw [Nat.mod_add_mod] at h
      intro j hj
      cases j with
      | zero => simpa using he
      | succ j => rw [← Nat.add_assoc, Nat.add_right_comm]; exact ih h j (by omega)

/-- What makes a slot eligible for a visit (R88). -/
theorem eligible_iff (s : State) (m : Nat) : eligible s m = true ↔ m < configuredSlots s ∧ (s.slot m).state ≠ .retired ∧
    bankOffline s (m / 16384) = false ∧ ∀ old, (s.slot m).owner ≠ .relocation old := by
  unfold eligible slotOffline bankOf
  dsimp only
  generalize (s.slot m).owner = o
  cases o <;> simp [and_assoc]

/-- The visit reads the first eligible slot from the cursor on. -/
theorem visitSlot_first {n : Nat} (hc : s.upkeep.cursor < configuredSlots s) (h : visitSlot s = some n) :
    eligible s n = true ∧ ∀ m, eligible s m = true →
      away (configuredSlots s) s.upkeep.cursor n ≤ away (configuredSlots s) s.upkeep.cursor m := by
  rw [visitSlot, ← Nat.mod_eq_of_lt hc] at h
  obtain ⟨k, hk, rfl, hn, hbefore⟩ := searchEligible_some h
  refine ⟨hn, fun m hm => ?_⟩
  rw [away_add hc hk]
  by_contra hlt
  have := hbefore _ (Nat.not_le.mp hlt)
  rw [add_away hc ((eligible_iff s m).mp hm).1, hm] at this
  cases this

theorem visitSlot_none (hc : s.upkeep.cursor < configuredSlots s) (h : visitSlot s = none) (m : Nat) : eligible s m = false := by
  rw [visitSlot, ← Nat.mod_eq_of_lt hc] at h
  rw [Bool.eq_false_iff]
  intro hm
  have hlt := away_lt (m := m) hc
  have := searchEligible_none h (away (configuredSlots s) s.upkeep.cursor m) hlt
  rw [add_away hc ((eligible_iff s m).mp hm).1, hm] at this
  cases this

/-- After a visit the cursor stays where no other slot is eligible, and else moves to the next one that is. -/
theorem cursorAfter_spec {n : Nat} (hn : n < configuredSlots s) :
    ((∀ m, eligible s m = true → m = n) → cursorAfter s n = n) ∧
    ((∃ m, eligible s m = true ∧ m ≠ n) → eligible s (cursorAfter s n) = true ∧ cursorAfter s n ≠ n ∧
      ∀ m, eligible s m = true → m ≠ n → away (configuredSlots s) n (cursorAfter s n) ≤ away (configuredSlots s) n m) := by
  have hother (m : Nat) (hm : eligible s m = true) (hne : m ≠ n) : 1 ≤ away (configuredSlots s) n m := by
    by_contra h0
    have := add_away hn ((eligible_iff s m).mp hm).1
    rw [Nat.lt_one_iff.mp (Nat.not_le.mp h0), Nat.add_zero, Nat.mod_eq_of_lt hn] at this
    exact hne this.symm
  have hat (m : Nat) (hm : eligible s m = true) (hne : m ≠ n) :
      (n + 1 + (away (configuredSlots s) n m - 1)) % configuredSlots s = m := by
    rw [show n + 1 + (away (configuredSlots s) n m - 1) = n + away (configuredSlots s) n m by have := hother m hm hne; omega]
    exact add_away hn ((eligible_iff s m).mp hm).1
  unfold cursorAfter
  cases hsearch : searchEligible s (configuredSlots s - 1) ((n + 1) % configuredSlots s) with
  | none =>
    refine ⟨fun _ => rfl, fun ⟨m, hm, hne⟩ => ?_⟩
    have hlt := away_lt (m := m) hn
    have := searchEligible_none hsearch (away (configuredSlots s) n m - 1) (by have := hother m hm hne; omega)
    rw [hat m hm hne, hm] at this
    cases this
  | some c =>
    obtain ⟨k, hk, hck, hc, hbefore⟩ := searchEligible_some hsearch
    have haway : away (configuredSlots s) n c = k + 1 := by
      rw [hck, Nat.add_assoc, Nat.add_comm 1 k, away_add hn (by omega)]
    have hne : c ≠ n := by
      rintro rfl
      rw [away, Nat.add_sub_cancel_left, Nat.mod_self] at haway
      omega
    refine ⟨fun h => absurd (h c hc) hne, fun _ => ⟨hc, hne, fun m hm hm' => ?_⟩⟩
    rw [Option.getD_some, haway]
    by_contra hlt
    have := hbefore (away (configuredSlots s) n m - 1) (by have := hother m hm hm'; omega)
    rw [hat m hm hm', hm] at this
    cases this

/-! ## The outcome of a visit -/

theorem recordDamage_slot (n : Nat) (s : State) : ∃ d, (recordDamage n s).slot n = { s.slot n with damage := d } := by
  unfold recordDamage
  dsimp only
  split
  · rw [raiseDamage_frame]
    refine ⟨true, slot_setSlot_new s fun hd => ?_⟩
    have := congrArg SlotEntry.damage hd
    unfold slotDefault at this
    split at this <;> cases this
  · exact ⟨_, rfl⟩

section
variable {n k : Nat} {g : BitVec 8} {noCopy : Bool} {d : Delivery}

theorem scrubTile_clean (h : d.result = .clean) : scrubTile n g noCopy d s = s := by simp only [scrubTile, h]

theorem scrubTile_free_corrected (h : d.result = .corrected k) (hst : (s.slot n).state = .free) : scrubTile n g noCopy d s =
    if (s.slot n).count < 3 then markDirty (markGroup n) (s.setSlot n { s.slot n with count := (s.slot n).count + 1 }) else s := by
  simp only [scrubTile, h, hst]

theorem scrubTile_free_uncorrectable (h : d.result = .uncorrectable k) (hst : (s.slot n).state = .free) :
    scrubTile n g noCopy d s = retireSlot n s := by simp only [scrubTile, h, hst]

theorem scrubTile_assigned_corrected (h : d.result = .corrected k) (hst : (s.slot n).state = .assigned) :
    scrubTile n g noCopy d s = if (s.slot n).relocationPending then s else if placesCopy noCopy s then
      { s with upkeep := { s.upkeep with buffer := some ⟨n, g, d.samples, .writeback (s.slot n).count⟩ } } else s := by
  simp only [scrubTile, h, hst]

theorem scrubTile_assigned_uncorrectable (h : d.result = .uncorrectable k) (hst : (s.slot n).state = .assigned) :
    scrubTile n g noCopy d s = recordDamage n s := by simp only [scrubTile, h, hst]

theorem scrubTile_frame : scrubTile n g noCopy d s = { s with
    slots := (scrubTile n g noCopy d s).slots, dirty := (scrubTile n g noCopy d s).dirty, pool := (scrubTile n g noCopy d s).pool
    upkeep := (scrubTile n g noCopy d s).upkeep, damage := (scrubTile n g noCopy d s).damage
    objects := (scrubTile n g noCopy d s).objects, overflow := (scrubTile n g noCopy d s).overflow } := by
  unfold scrubTile
  dsimp only
  split
  · split <;> rfl
  · rfl
  · split
    · rfl
    · split <;> rfl
  · rw [recordDamage_frame]
  · rfl

theorem scrubTile_relocations : (scrubTile n g noCopy d s).relocations = s.relocations := by rw [scrubTile_frame]

theorem scrubTile_banks : (scrubTile n g noCopy d s).banks = s.banks := by rw [scrubTile_frame]

/-- A visit places a copy only in the place the part is READY for. -/
theorem scrubTile_buffer (h : placesCopy noCopy s = false) : (scrubTile n g noCopy d s).upkeep.buffer = s.upkeep.buffer := by
  unfold scrubTile
  dsimp only
  split
  · split <;> rfl
  · rfl
  · split
    · rfl
    · rw [if_neg (by rw [h]; decide)]
  · rw [recordDamage_frame]
  · rfl

/-- A slot that is ASSIGNED stays so in its visit, with its count. -/
theorem scrubTile_assigned (h : (s.slot n).state = .assigned) :
    ∃ e, (scrubTile n g noCopy d s).slot n = e ∧ e.state = .assigned ∧ e.count = (s.slot n).count := by
  cases hr : d.result with
  | corrected k =>
    rw [scrubTile_assigned_corrected hr h]
    refine ⟨s.slot n, ?_, h, rfl⟩
    split
    · rfl
    · split <;> rfl
  | uncorrectable k =>
    rw [scrubTile_assigned_uncorrectable hr h]
    obtain ⟨x, hx⟩ := recordDamage_slot n s
    exact ⟨_, hx, h, rfl⟩
  | clean | bankOffline | mediumFault => exact ⟨s.slot n, by simp only [scrubTile, hr], h, rfl⟩

/-- No visit makes a slot ASSIGNED. -/
theorem scrubTile_not_assigned (h : (s.slot n).state ≠ .assigned) : ((scrubTile n g noCopy d s).slot n).state ≠ .assigned := by
  unfold scrubTile
  dsimp only
  split
  · next k hr hst =>
    split
    · have hset := slot_setSlot_new s (n := n) (e := { s.slot n with count := (s.slot n).count + 1 }) fun hd => by
        have := congrArg SlotEntry.count hd
        unfold slotDefault at this
        split at this <;> cases this
      change ((s.setSlot n _).slot n).state ≠ _
      rw [hset]
      exact h
    · exact h
  · rw [retireSlot_slot]
    simp
  · next hst => exact absurd hst h
  · next hst => exact absurd hst h
  · exact h

/-- After a visit the slot joins the relocation list exactly as the list and the slot stood before it. -/
theorem mayJoin_scrubTile (hoff : bankOffline s (n / 16384) = false) : mayJoin (scrubTile n g noCopy d s) n ↔
    512 ≤ n ∧ (s.slot n).state = .assigned ∧ (s.slot n).count = 3 ∧ n ∉ s.relocations ∧ s.relocations.length < 16 := by
  have hoff' : slotOffline (scrubTile n g noCopy d s) n = false := by
    rw [slotOffline, bankOffline, scrubTile_banks]
    exact hoff
  unfold mayJoin
  rw [scrubTile_relocations]
  by_cases h : (s.slot n).state = .assigned
  · obtain ⟨e, he, hst, hcount⟩ := scrubTile_assigned (g := g) (noCopy := noCopy) (d := d) h
    rw [he, hst, hcount]
    tauto
  · have := scrubTile_not_assigned (g := g) (noCopy := noCopy) (d := d) h
    tauto

end

/-- A read has met a wrong word. -/
def ReadResult.hasErrors (r : ReadResult) : Prop := (∃ k, r = .corrected k) ∨ ∃ k, r = .uncorrectable k

theorem scrubCatalogue_of_errors {n : Nat} {r : ReadResult} (h : r.hasErrors) : scrubCatalogue n r s =
    if n = 1 then s.billed else if n ≤ lastGroup s then markDirty n s else s := by
  rcases h with ⟨k, rfl⟩ | ⟨k, rfl⟩ <;> rfl

theorem scrubCatalogue_of_clean (n : Nat) : scrubCatalogue n .clean s = s := rfl

/-- A visit to a slot of the catalogue region (R90) leaves everything but a mark. -/
theorem scrubCatalogue_frame (n : Nat) (r : ReadResult) (s : State) : scrubCatalogue n r s =
    { s with dirty := (scrubCatalogue n r s).dirty, billingPending := (scrubCatalogue n r s).billingPending } := by
  by_cases h : r.hasErrors
  · rw [scrubCatalogue_of_errors h]
    split
    · rfl
    · split <;> rfl
  · cases r with
    | corrected k => exact absurd (.inl ⟨k, rfl⟩) h
    | uncorrectable k => exact absurd (.inr ⟨k, rfl⟩) h
    | clean | bankOffline | mediumFault => rfl

theorem scrubCatalogue_spare {n : Nat} (r : ReadResult) (h : lastGroup s < n) : scrubCatalogue n r s = s := by
  by_cases hr : r.hasErrors
  · rw [scrubCatalogue_of_errors hr, if_neg (by unfold lastGroup at h; omega), if_neg (Nat.not_le.mpr h)]
  · cases r with
    | corrected k => exact absurd (.inl ⟨k, rfl⟩) hr
    | uncorrectable k => exact absurd (.inr ⟨k, rfl⟩) hr
    | clean | bankOffline | mediumFault => rfl

/-- Settles O50: the search by `visitSlot_first` and `cursorAfter_spec`; the outcomes of a visit by the equations of `scrubTile`. -/
theorem scrubVisitOutcomes : Obligations.ScrubVisitOutcomes := by
  refine ⟨fun n s hn hc => ?_, fun b g noCopy errors s hb hw hoff => ?_⟩
  · intro size ok aw t
    have hok (m : Nat) : ok m ↔ eligible s m = true := (eligible_iff s m).symm
    obtain ⟨hstay, hmove⟩ := cursorAfter_spec hn
    refine ⟨fun h => ?_, fun h m hm => ?_, rfl, fun h => hstay fun m hm => h m ((hok m).mpr hm), fun ⟨m, hm, hne⟩ => ?_⟩
    · obtain ⟨hen, hfirst⟩ := visitSlot_first hc h
      exact ⟨(hok n).mpr hen, fun m hm => hfirst m ((hok m).mp hm)⟩
    · exact absurd ((hok m).mp hm) (by rw [visitSlot_none hc h m]; decide)
    · obtain ⟨hel, hne', hnext⟩ := hmove ⟨m, (hok m).mp hm, hne⟩
      exact ⟨(hok _).mpr hel, hne', fun m hm => hnext m ((hok m).mp hm)⟩
  · intro n e d corrected uncorrectable
    have hexec := exec_scrubVisitComplete (.delivered errors) hb hw
    have hframe := readEnded_done_frame hoff
    have hoffu := bankOffline_readEnded hoff (n / 16384)
    rw [endRead_eq, show ReadEnd.isDelivered (.delivered errors) = true from rfl, spendRead_frame,
      show scrubTaken b.slot g noCopy (deliver s b.slot (.delivered errors)) (readEnded b true s) =
        scrubTaken n g noCopy d (readEnded b true s) from rfl] at hexec
    generalize readEnded b true s = u at hexec hframe hoffu
    have hfault : d.result ≠ .mediumFault := delivered_ne_fault s b.slot errors
    have hslot (m : Nat) : u.slot m = s.slot m := by rw [hframe]; rfl
    have hslots : u.slots = s.slots := by rw [hframe]
    have hpool : u.pool = s.pool := by rw [hframe]
    have hdirty : u.dirty = s.dirty := by rw [hframe]
    have hupkeep : u.upkeep = s.upkeep := by rw [hframe]
    have hrel : u.relocations = s.relocations := by rw [hframe]
    have hmedium : u.medium = s.medium := by rw [hframe]
    have hdevice : u.device = s.device := by rw [hframe]
    have hpending : u.billingPending = s.billingPending := by rw [hframe]
    have hgroup : lastGroup u = lastGroup s := by rw [hframe]; rfl
    have hplace : noCopy = true ∨ s.device ≠ .ready → placesCopy noCopy u = false := by
      rw [placesCopy, hdevice]
      rintro (h | h) <;> simp [h]
    rcases Nat.lt_or_ge n 512 with hlow | hhigh
    · have htaken : scrubTaken n g noCopy d u = scrubCatalogue n d.result u := by rw [scrubTaken, if_neg hfault, if_pos hlow]
      rw [htaken] at hexec
      have hcframe := scrubCatalogue_frame n d.result u
      have herrors : corrected ∨ uncorrectable → d.result.hasErrors := id
      have hnot : ¬ 512 ≤ n := Nat.not_le.mpr hlow
      refine ⟨_, hexec, ?_, fun h => absurd h hnot, fun h => absurd h hnot, fun h => absurd h hnot, fun _ => ?_,
        fun h => absurd h hnot, fun _ _ h => absurd h hnot, fun hle h1 _ her => ?_, fun h1 her => ?_, fun hgt _ => ?_,
        ⟨fun h => absurd h.1 hnot, fun _ => ?_⟩, fun hr _ => ?_⟩
      · change (scrubCatalogue n d.result u).medium = _
        rw [hcframe]
        exact hmedium
      · change (scrubCatalogue n d.result u).upkeep.buffer = _
        rw [hcframe, ← hupkeep]
      · change n ∈ (scrubCatalogue n d.result u).dirty
        rw [scrubCatalogue_of_errors (herrors her), if_neg h1, if_pos (by rw [hgroup]; exact hle)]
        exact mem_dirty_mark.mpr (.inr rfl)
      · change (scrubCatalogue n d.result u).billingPending = true
        rw [scrubCatalogue_of_errors (herrors her), if_pos h1]
        rfl
      · rw [scrubCatalogue_spare d.result (by rw [hgroup]; exact hgt)]
        exact ⟨hslots, hdirty, hpending, hpool, congrArg Upkeep.buffer hupkeep⟩
      · change (scrubCatalogue n d.result u).relocations = _
        rw [hcframe]
        exact hrel
      · rw [hr, scrubCatalogue_of_clean]
        exact ⟨hslots, hrel, hdirty⟩
    · have htaken : scrubTaken n g noCopy d u = joinRelocations n (scrubTile n g noCopy d u) := by
        rw [scrubTaken, if_neg hfault, if_neg (Nat.not_lt.mpr hhigh)]
      rw [htaken] at hexec
      have hmay := mayJoin_scrubTile (s := u) (g := g) (noCopy := noCopy) (d := d) (hoffu.trans hoff)
      rw [hslot, hrel] at hmay
      have hjoin := joinRelocations_frame n (scrubTile n g noCopy d u)
      have hfree (h : e.state = .free) : joinRelocations n (scrubTile n g noCopy d u) = scrubTile n g noCopy d u := by
        refine joinRelocations_of_not fun hm => ?_
        obtain ⟨-, hst, -⟩ := hmay.mp hm
        rw [h] at hst
        cases hst
      refine ⟨_, hexec, ?_, fun _ hst ⟨k, hr⟩ => ?_, fun _ hst ⟨k, hr⟩ => ?_, fun _ hst hp ⟨k, hr⟩ hready hcopy => ?_,
        fun hno => ?_, fun _ hst hp ⟨k, hr⟩ => ?_, fun object index _ hst how hdam ⟨k, hr⟩ => ?_,
        fun _ _ h => absurd h (Nat.not_lt.mpr hhigh), fun h1 => absurd hhigh (by omega), fun _ h => absurd h (Nat.not_lt.mpr hhigh),
        ⟨fun hj => ?_, fun hj => ?_⟩, fun hr hcount => ?_⟩
      · change (joinRelocations n (scrubTile n g noCopy d u)).medium = _
        rw [hjoin, scrubTile_frame]
        exact hmedium
      · have hstu : (u.slot n).state = .free := by rw [hslot]; exact hst
        rw [hfree hst, scrubTile_free_corrected hr hstu, hslot]
        by_cases hc : e.count < 3
        · rw [if_pos hc]
          refine ⟨?_, fun _ => mem_dirty_mark.mpr (.inr rfl)⟩
          rw [show max e.count (min 3 (e.count + 1)) = e.count + 1 by omega]
          refine slot_setSlot_new u fun hd => ?_
          have := congrArg SlotEntry.count hd
          unfold slotDefault at this
          split at this <;> cases this
        · rw [if_neg hc, show max e.count (min 3 (e.count + 1)) = e.count by omega]
          exact ⟨hslot n, fun h => absurd h hc⟩
      · have hstu : (u.slot n).state = .free := by rw [hslot]; exact hst
        rw [hfree hst, scrubTile_free_uncorrectable hr hstu]
        have hret := retireSlot_slot (n := n) (s := u)
        rw [hslot] at hret
        have hcount := congrArg SlotEntry.count hret
        exact ⟨congrArg SlotEntry.state hret, fun h => by simpa using (List.mem_filter.mp h).2, hcount,
          mem_dirty_mark.mpr (.inr rfl)⟩
      · have hstu : (u.slot n).state = .assigned := by rw [hslot]; exact hst
        change (joinRelocations n (scrubTile n g noCopy d u)).upkeep.buffer = _
        rw [hjoin, scrubTile_assigned_corrected hr hstu, hslot, if_neg (by rw [hp]; decide),
          if_pos (by rw [hcopy]; exact placesCopy_of_ready (hdevice.trans hready))]
      · change (joinRelocations n (scrubTile n g noCopy d u)).upkeep.buffer = _
        rw [hjoin]
        exact (scrubTile_buffer (hplace hno)).trans (congrArg Upkeep.buffer hupkeep)
      · have hstu : (u.slot n).state = .assigned := by rw [hslot]; exact hst
        have hsame : scrubTile n g noCopy d u = u := by
          rw [scrubTile_assigned_corrected hr hstu, if_pos (by rw [hslot]; exact hp)]
        rw [hsame] at hjoin ⊢
        obtain ⟨x, hx⟩ := joinRelocations_slot n u
        rw [hslot] at hx
        have hcount := congrArg SlotEntry.count hx
        refine ⟨?_, hcount⟩
        change (joinRelocations n u).upkeep.buffer = _
        rw [hjoin]
        exact congrArg Upkeep.buffer hupkeep
      · have hstu : (u.slot n).state = .assigned := by rw [hslot]; exact hst
        obtain ⟨hmark, hdirt⟩ := recordDamage_mark (s := u) hstu (by rw [hslot]; exact how) (by rw [hslot]; exact hdam)
        rw [scrubTile_assigned_uncorrectable hr hstu]
        obtain ⟨x, hx⟩ := joinRelocations_slot n (recordDamage n u)
        obtain ⟨y, hy⟩ := recordDamage_slot n u
        rw [hslot] at hy
        have hcount := congrArg SlotEntry.count hy
        refine ⟨(congrArg SlotEntry.damage hx).trans hmark, (congrArg SlotEntry.count hx).trans hcount, ?_⟩
        change _ ∈ (joinRelocations n (recordDamage n u)).dirty
        rw [joinRelocations_dirty]
        exact hdirt
      · have hm := hmay.mpr hj
        refine ⟨?_, congrArg SlotEntry.relocationPending (joinRelocations_slot_of_may hm)⟩
        change (joinRelocations n (scrubTile n g noCopy d u)).relocations = _
        rw [joinRelocations_of_may hm, ← hrel]
        exact congrArg (· ++ [n]) scrubTile_relocations
      · change (joinRelocations n (scrubTile n g noCopy d u)).relocations = _
        rw [joinRelocations_of_not fun hm => hj (hmay.mp hm), scrubTile_relocations, hrel]
      · have hno : ¬ mayJoin (scrubTile n g noCopy d u) n := fun hm => by
          obtain ⟨-, -, h3, -⟩ := hmay.mp hm
          exact absurd h3 (Nat.ne_of_lt hcount)
        rw [joinRelocations_of_not hno, scrubTile_clean hr]
        exact ⟨hslots, hrel, hdirty⟩

end Sys2Proof.Machine
end

section
/-!
PROOF. The store arbiter's decision, and the work the upkeep engine chooses: O44.
-/

namespace Sys2Proof.Machine

open Sys2Proof

variable {s t u : State} {p q : Port} {b : Burst}

/-! ## The decision at the end of a burst -/

theorem decision_upkeep {m : Port} (hu : upkeepRequests s = true) (hsel : s.arbiter.selected = some (.port m)) :
    decision s = some .upkeep := by simp only [decision, hu, hsel, Bool.and_self, if_true]

/-- The rest of the decision: a master before upkeep. -/
def masterFirst (s : State) : Option Requester :=
  if portRequests .a s && portRequests .b s then some (.port (chooseMaster s))
  else if portRequests .a s then some (.port .a)
  else if portRequests .b s then some (.port .b)
  else if upkeepRequests s then some .upkeep
  else none

theorem decision_masterFirst (h : upkeepRequests s = false ∨ ∀ m, s.arbiter.selected ≠ some (.port m)) : decision s = masterFirst s := by
  unfold decision masterFirst
  dsimp only
  rw [if_neg]
  rw [Bool.and_eq_true]
  rintro ⟨hu, hl⟩
  rcases h with h | h
  · rw [h] at hu; cases hu
  · split at hl
    · next m hm => exact h m hm
    · cases hl

/-! ## The work chosen -/

theorem head?_eq_some_iff_least {l : List Nat} (hl : l.Pairwise (· < ·)) {g : Nat} : l.head? = some g ↔ g ∈ l ∧ ∀ d ∈ l, g ≤ d := by
  cases l with
  | nil => simp
  | cons x rest =>
    obtain ⟨hx, -⟩ := List.pairwise_cons.mp hl
    rw [List.head?_cons, Option.some_inj]
    constructor
    · rintro rfl
      refine ⟨List.mem_cons_self, fun d hd => ?_⟩
      rcases List.mem_cons.mp hd with rfl | hd
      · exact Nat.le_refl _
      · exact Nat.le_of_lt (hx d hd)
    · rintro ⟨hg, hle⟩
      rcases List.mem_cons.mp hg with rfl | hg
      · rfl
      · exact absurd (hle x List.mem_cons_self) (Nat.not_le.mpr (hx g hg))

/-- The first dirty group above `h`. -/
theorem find?_above {l : List Nat} (hl : l.Pairwise (· < ·)) {g h : Nat} :
    l.find? (fun d => decide (h < d)) = some g ↔ g ∈ l ∧ h < g ∧ ∀ d ∈ l, h < d → g ≤ d := by
  rw [← List.head?_filter, head?_eq_some_iff_least (hl.filter _)]
  simp only [List.mem_filter, decide_eq_true_eq]
  tauto

theorem nextDirty_iff (hs : s.dirty.Pairwise (· < ·)) {g : Nat} : nextDirty s = some g ↔ g ∈ s.dirty ∧
    ((∃ h, s.upkeep.lastGroup = some h ∧ h < g ∧ ∀ d ∈ s.dirty, h < d → g ≤ d) ∨
      ((∀ h, s.upkeep.lastGroup = some h → ∀ d ∈ s.dirty, d ≤ h) ∧ ∀ d ∈ s.dirty, g ≤ d)) := by
  unfold nextDirty
  cases hlast : s.upkeep.lastGroup with
  | none =>
    simp only [head?_eq_some_iff_least hs]
    constructor
    · rintro ⟨hg, hle⟩
      exact ⟨hg, Or.inr ⟨nofun, hle⟩⟩
    · rintro ⟨hg, ⟨h, hh, -⟩ | ⟨-, hle⟩⟩
      · cases hh
      · exact ⟨hg, hle⟩
  | some h =>
    cases hfind : s.dirty.find? fun d => decide (h < d) with
    | some d =>
      obtain ⟨hd, hlt, hle⟩ := (find?_above hs).mp hfind
      simp only [hfind, Option.some.injEq]
      constructor
      · rintro rfl
        exact ⟨hd, .inl ⟨h, rfl, hlt, hle⟩⟩
      · rintro ⟨hg, ⟨h', rfl, hlt', hle'⟩ | ⟨hall, -⟩⟩
        · exact Nat.le_antisymm (hle g hg hlt') (hle' d hd hlt)
        · exact absurd (hall h rfl d hd) (Nat.not_le.mpr hlt)
    | none =>
      have hnone : ∀ d ∈ s.dirty, d ≤ h := fun d hd => by simpa using List.find?_eq_none.mp hfind d hd
      simp only [hfind, head?_eq_some_iff_least hs, Option.some.injEq]
      constructor
      · rintro ⟨hg, hle⟩
        exact ⟨hg, .inr ⟨fun h' hh d hd => hh ▸ hnone d hd, hle⟩⟩
      · rintro ⟨hg, ⟨h', rfl, hlt, -⟩ | ⟨-, hle⟩⟩
        · exact absurd (hnone g hg) (Nat.not_le.mpr hlt)
        · exact ⟨hg, hle⟩

theorem flushWanted_iff {g : Nat} : flushWanted s = some g ↔ bankOffline s 0 = false ∧ nextDirty s = some g := by
  unfold flushWanted
  cases bankOffline s 0 <;> simp

theorem scrubWanted_iff {n : Nat} : scrubWanted s = some n ↔ (s.upkeep.due = true ∨ 0 < s.upkeep.burstCount) ∧ visitSlot s = some n := by
  unfold scrubWanted
  split
  · next h => simpa using fun _ => by simpa using h
  · next h =>
    simp only [Bool.or_eq_true, decide_eq_true_eq] at h
    simp [h]

theorem relocationWanted_iff {old : Nat} : relocationWanted s = some old ↔ 1 ≤ usableFree s ∧ bankOffline s (old / 16384) = false ∧
    ∃ before after, s.relocations = before ++ old :: after ∧ ∀ q ∈ before, bankOffline s (q / 16384) = true := by
  unfold relocationWanted
  split
  · next h => simp [h]
  · next h =>
    rw [List.find?_eq_some_iff_append]
    simp only [slotOffline, bankOf, Bool.not_not, Bool.not_eq_eq_eq_not, Bool.not_true]
    constructor
    · rintro ⟨hoff, before, after, heq, hb⟩
      exact ⟨by omega, hoff, before, after, heq, hb⟩
    · rintro ⟨-, hoff, before, after, heq, hb⟩
      exact ⟨hoff, before, after, heq, hb⟩

theorem eq_none_of_iff {α : Type} {o : Option α} {P : α → Prop} (h : ∀ a, o = some a ↔ P a) (hn : ∀ a, ¬ P a) : o = none := by
  cases o with
  | none => rfl
  | some a => exact absurd ((h a).mp rfl) (hn a)

theorem chooseWork_billing (hd : s.device = .ready ∨ s.device = .flushing) (hb : s.billingPending = true ∧ bankOffline s 0 = false) :
    chooseWork s = some .billing := by
  rcases hd with hd | hd <;> simp [chooseWork, hd, hb.1, hb.2]

section
variable (hb : ¬ (s.billingPending = true ∧ bankOffline s 0 = false))
include hb

theorem not_billing : (s.billingPending && !bankOffline s 0) = false := by
  rw [Bool.eq_false_iff, Ne, Bool.and_eq_true, Bool.not_eq_true']
  exact hb

theorem chooseWork_flushing (hd : s.device = .flushing) : chooseWork s = (flushWanted s).map .flush := by
  simp only [chooseWork, hd, not_billing hb, Bool.false_eq_true, if_false]

theorem chooseWork_copy {c : Copy} (hd : s.device = .ready) (hc : s.upkeep.buffer = some c) : chooseWork s = some (.copy c) := by
  simp only [chooseWork, hd, not_billing hb, hc, Bool.false_eq_true, if_false]

theorem chooseWork_rest (hd : s.device = .ready) (hc : s.upkeep.buffer = none) : chooseWork s = restOfWork s := by
  simp only [chooseWork, hd, not_billing hb, hc, Bool.false_eq_true, if_false]

end

/-- A copy is chosen only from the tile buffer. -/
theorem buffer_of_chooseWork {c : Copy} (h : chooseWork s = some (.copy c)) : s.upkeep.buffer = some c := by
  unfold chooseWork at h
  split at h
  · split at h
    · cases h
    · split at h
      · next c' hc =>
        obtain rfl : c' = c := by simpa using h
        exact hc
      · unfold restOfWork at h
        split at h
        · cases h
        · split at h
          · split at h <;> cases h
          all_goals cases h
  · split at h
    · cases h
    · obtain ⟨g, -, hg⟩ := Option.map_eq_some_iff.mp h
      cases hg
  all_goals cases h

theorem dropCopy_buffer (s : State) : (dropCopy s).upkeep.buffer = none := by rw [dropCopy_frame]

/-- Work that needs no copy starts no write of one. -/
theorem startWork_no_copy {w : UpkeepWork} (hw : restOfWork s = some w) (hbuffer : s.upkeep.buffer = none) :
    (startWork w s).upkeep.buffer = none ∧ (s.burst = none → ∀ b, (startWork w s).burst = some b →
      (∀ k d, b.work ≠ .writeback k d) ∧ ∀ old d, b.work ≠ .relocationWrite old d) := by
  have hburst {work : BurstWork} {n : Nat} {c : Option SlotContent} {v : State} (h1 : ∀ k d, work ≠ .writeback k d)
      (h2 : ∀ old d, work ≠ .relocationWrite old d) (b : Burst) (hb : (startBurst work n c v).burst = some b) :
      (∀ k d, b.work ≠ .writeback k d) ∧ ∀ old d, b.work ≠ .relocationWrite old d := by
    obtain rfl := Option.some.inj hb
    exact ⟨h1, h2⟩
  cases w with
  | billing =>
    refine ⟨?_, fun _ => hburst (fun _ _ => nofun) fun _ _ => nofun⟩
    change (startWrite 1 _).upkeep.buffer = none
    rw [startWrite_frame, carryWait_frame .b, carryWait_frame .a]
    exact hbuffer
  | copy c =>
    unfold restOfWork at hw
    split at hw
    · cases hw
    · split at hw
      · split at hw <;> cases hw
      all_goals cases hw
  | relocate old =>
    unfold startWork startRelocation
    dsimp only
    split
    · exact ⟨hbuffer, fun hb b h => by rw [hb] at h; cases h⟩
    · exact ⟨hbuffer, fun _ => hburst (fun _ _ => nofun) fun _ _ => nofun⟩
  | flush g =>
    refine ⟨?_, fun _ => hburst (fun _ _ => nofun) fun _ _ => nofun⟩
    change (startWrite g _).upkeep.buffer = none
    rw [startWrite_frame]
    exact hbuffer
  | scrub n => exact ⟨hbuffer, fun _ => hburst (fun _ _ => nofun) fun _ _ => nofun⟩

/-- Settles O44: the decision by cases on the arbiter, and the work by the `iff` of each piece's wish. -/
theorem grantDecision : Obligations.GrantDecision := by
  refine ⟨fun s => ?_, fun g => ⟨⟨rfl, rfl, rfl, rfl⟩, fun m => ⟨rfl, rfl, rfl, rfl⟩⟩, fun s hs => ?_⟩
  · intro a b u other
    refine ⟨fun hu ⟨m, hm⟩ => decision_upkeep hu hm, fun hsel => ?_⟩
    rw [decision_masterFirst hsel]
    refine ⟨fun ha hb => ?_, fun ha hb => ?_, fun ha hb => ?_, fun ha hb => ?_⟩
    · simp only [masterFirst, show portRequests .a s = true from ha, show portRequests .b s = false from hb, Bool.and_false,
        Bool.false_eq_true, if_false, if_true]
    · simp only [masterFirst, show portRequests .a s = false from ha, show portRequests .b s = true from hb, Bool.false_and,
        Bool.false_eq_true, if_false, if_true]
    · simp only [masterFirst, show portRequests .a s = false from ha, show portRequests .b s = false from hb, Bool.false_and,
        Bool.false_eq_true, if_false]
      rfl
    · have hmaster : masterFirst s = some (.port (chooseMaster s)) := by
        simp only [masterFirst, show portRequests .a s = true from ha, show portRequests .b s = true from hb, Bool.and_self, if_true]
      rw [hmaster]
      refine ⟨fun hf => by simp only [chooseMaster, hf, if_true], fun hf => ⟨fun m hm => ?_, fun m hsel hm => ?_, fun h1 h2 hm => ?_⟩⟩
      · simp only [chooseMaster, hf, hm, Bool.false_eq_true, if_false]
        cases m <;> rfl
      · simp only [chooseMaster, hf, hsel, hm, Bool.false_eq_true, if_false]
        cases m <;> rfl
      · cases hsel : s.arbiter.selected with
        | none => simp only [chooseMaster, hf, hsel, hm, Bool.false_eq_true, if_false]
        | some r =>
          cases r with
          | upkeep => simp only [chooseMaster, hf, hsel, hm, Bool.false_eq_true, if_false]
          | port m =>
            cases m with
            | a => exact absurd hsel h1
            | b => exact absurd hsel h2
  · intro next visits relocates billing
    have hflush (g : Nat) : flushWanted s = some g ↔ next g :=
      flushWanted_iff.trans (and_congr_right fun _ => nextDirty_iff hs)
    have hscrub (n : Nat) : scrubWanted s = some n ↔ visits n := scrubWanted_iff
    have hrelocate (n : Nat) : relocationWanted s = some n ↔ relocates n := relocationWanted_iff
    refine ⟨fun h1 h2 => ?_, fun hd hb => chooseWork_billing hd hb, fun hd hb => ⟨fun g hg => ?_, fun hg => ?_⟩,
      fun hd hb => ⟨fun c hc => chooseWork_copy hb hd hc, fun hc => ⟨fun old ho => ?_, fun hno => ?_⟩⟩, fun c hc => ⟨fun hg => ?_, fun hg => ?_⟩⟩
    · unfold chooseWork
      cases hd : s.device with
      | ready => exact absurd hd h1
      | flushing => exact absurd hd h2
      | preparing | halted | faulted => rfl
    · rw [chooseWork_flushing hb hd, (hflush g).mpr hg]
      rfl
    · rw [chooseWork_flushing hb hd, eq_none_of_iff hflush hg]
      rfl
    · simp only [chooseWork_rest hb hd hc, restOfWork, (hrelocate old).mpr ho]
    · have hrest : relocationWanted s = none := eq_none_of_iff hrelocate hno
      rw [chooseWork_rest hb hd hc]
      refine ⟨fun g n hg hn => ?_, fun g hg hn => ?_, fun n hg hn => ?_, fun hg hn => ?_⟩
      · simp only [restOfWork, hrest, (hflush g).mpr hg, (hscrub n).mpr hn]
        split <;> rfl
      · simp only [restOfWork, hrest, (hflush g).mpr hg, eq_none_of_iff hscrub hn]
      · simp only [restOfWork, hrest, eq_none_of_iff hflush hg, (hscrub n).mpr hn]
      · simp only [restOfWork, hrest, eq_none_of_iff hflush hg, eq_none_of_iff hscrub hn]
    · have hstart : startUpkeep s = startCopy c s := by simp only [startUpkeep, hc, hg, if_true]
      rw [hstart]
      obtain ⟨slot, generation, samples, purpose⟩ := c
      cases purpose <;> rfl
    · cases hw : restOfWork (dropCopy s) with
      | none =>
        have hstart : startUpkeep s = dropCopy s := by simp only [startUpkeep, hc, hg, hw, if_false]
        rw [hstart]
        refine ⟨dropCopy_buffer s, fun hb b h => ?_⟩
        rw [show (dropCopy s).burst = none by rw [dropCopy_frame]; exact hb] at h
        cases h
      | some w =>
        have hstart : startUpkeep s = startWork w (dropCopy s) := by simp only [startUpkeep, hc, hg, hw, if_false]
        rw [hstart]
        obtain ⟨hbuf, hburst⟩ := startWork_no_copy hw (dropCopy_buffer s)
        exact ⟨hbuf, fun hb => hburst (by rw [dropCopy_frame]; exact hb)⟩

end Sys2Proof.Machine
end

section
/-!
PROOF. Reconcile: every tile position comes to own a slot: O59.
-/

namespace Sys2Proof.Machine

open Sys2Proof

variable {s t u : State} {p q : Port} {b : Burst}

/-! ## Folds -/

/-- What a step establishes for its own item, and keeps for every other one, holds of every item after a fold. -/
theorem foldl_establishes {α β : Type} {f : β → α → β} {P : α → β → Prop} {l : List α} (hnew : ∀ x ∈ l, ∀ b, P x (f b x))
    (hkeep : ∀ x y b, P x b → P x (f b y)) (b : β) : ∀ x ∈ l, P x (l.foldl f b) := by
  induction l generalizing b with
  | nil => exact fun x hx => absurd hx List.not_mem_nil
  | cons y rest ih =>
    intro x hx
    rw [List.foldl_cons]
    rcases List.mem_cons.mp hx with rfl | hx
    · exact List.foldlRecOn rest f (motive := P x) (hnew x List.mem_cons_self b) fun c hc z _ => hkeep x z c hc
    · exact ih (fun z hz => hnew z (List.mem_cons_of_mem _ hz)) (f b y) x hx

/-! ## Owned tile positions -/

/-- The slot of a tile position is its own. -/
def Owns (s : State) (object index : Nat) (m : MapEntry) : Prop :=
  512 ≤ m.slot ∧ (s.slot m.slot).state = .assigned ∧ (s.slot m.slot).owner = .tile object index ∧ (s.slot m.slot).written = m.written

/-- Every tile position owns its slot or is listed as orphaned. -/
def Placed (orphans : List (Nat × Nat)) (s : State) : Prop :=
  ∀ o ∈ s.objects, ∀ (i : Nat) (m : MapEntry), o.tileMap[i]? = some m → (o.number, i) ∈ orphans ∨ Owns s o.number i m

theorem assigned_ne_default {e : SlotEntry} {n : Nat} (hn : 512 ≤ n) (h : e.state = .assigned) : e ≠ slotDefault n := by
  rintro rfl
  rw [slotDefault, if_neg (by omega)] at h
  cases h

/-- A tile position keeps its slot where another slot, which is not ASSIGNED, is written. -/
theorem Owns.setSlot_free {object index n : Nat} {m : MapEntry} {e : SlotEntry} (h : Owns s object index m)
    (hfree : (s.slot n).state ≠ .assigned) : Owns (s.setSlot n e) object index m := by
  obtain ⟨hlow, hst, how, hw⟩ := h
  have hne : m.slot ≠ n := fun he => hfree (he ▸ hst)
  rw [Owns, slot_setSlot_other s e hne]
  exact ⟨hlow, hst, how, hw⟩

/-- Nothing but the slots matters to ownership. -/
theorem Owns.congr {object index : Nat} {m : MapEntry} (h : Owns s object index m) (hs : t.slots = s.slots) : Owns t object index m := by
  unfold Owns State.slot
  rw [hs]
  exact h

/-! ## Claims -/

/-- A position has claimed its slot, or is listed. -/
def Claimed (object index : Nat) (m : MapEntry) (acc : State × List (Nat × Nat)) : Prop :=
  (object, index) ∈ acc.2 ∨ Owns acc.1 object index m

theorem claimTile_claimed (object index : Nat) (m : MapEntry) (acc : State × List (Nat × Nat)) :
    Claimed object index m (claimTile object index m acc) := by
  obtain ⟨s, orphans⟩ := acc
  unfold claimTile
  dsimp only
  split
  · next h =>
    obtain ⟨hlow, -, -⟩ := h
    refine .inr ⟨hlow, ?_⟩
    rw [slot_setSlot_new s (assigned_ne_default hlow rfl)]
    exact ⟨rfl, rfl, rfl⟩
  · exact .inl (List.mem_append.mpr (.inr (List.mem_singleton.mpr rfl)))

theorem claimTile_keeps {object index : Nat} {m : MapEntry} (object' index' : Nat) (m' : MapEntry) {acc : State × List (Nat × Nat)}
    (h : Claimed object index m acc) : Claimed object index m (claimTile object' index' m' acc) := by
  obtain ⟨s, orphans⟩ := acc
  unfold claimTile
  dsimp only
  split
  · next hc =>
    obtain ⟨-, -, hfree⟩ := hc
    exact h.imp id fun h => h.setSlot_free (by rw [hfree]; decide)
  · exact h.imp (fun h => List.mem_append.mpr (.inl h)) id

/-- A claim changes slots alone. -/
theorem claimTile_frame (object index : Nat) (m : MapEntry) (acc : State × List (Nat × Nat)) :
    (claimTile object index m acc).1 = { acc.1 with slots := (claimTile object index m acc).1.slots } ∧
      (Assoc.wf slotDefault acc.1.slots = true → Assoc.wf slotDefault (claimTile object index m acc).1.slots = true) := by
  obtain ⟨s, orphans⟩ := acc
  unfold claimTile
  dsimp only
  split
  · exact ⟨rfl, wf_setSlot s _ _⟩
  · exact ⟨rfl, id⟩

/-- The claim of one tile of an object. -/
def claimAt (o : ObjectRec) (acc : State × List (Nat × Nat)) (x : MapEntry × Nat) : State × List (Nat × Nat) :=
  claimTile o.number x.2 x.1 acc

/-- The claims of all the tiles of one object. -/
def claimObject (acc : State × List (Nat × Nat)) (o : ObjectRec) : State × List (Nat × Nat) := o.tileMap.zipIdx.foldl (claimAt o) acc

theorem claimAll_eq (s : State) : claimAll s = s.objects.foldl claimObject (s, []) := rfl

/-- Every tile of the object has claimed its slot. -/
def AllClaimed (o : ObjectRec) (acc : State × List (Nat × Nat)) : Prop := ∀ x ∈ o.tileMap.zipIdx, Claimed o.number x.2 x.1 acc

theorem claimObject_keeps {object index : Nat} {m : MapEntry} (o : ObjectRec) {acc : State × List (Nat × Nat)}
    (h : Claimed object index m acc) : Claimed object index m (claimObject acc o) :=
  List.foldlRecOn _ _ (motive := Claimed object index m) h fun _ hb _ _ => claimTile_keeps _ _ _ hb

theorem claimObject_claimed (o : ObjectRec) (acc : State × List (Nat × Nat)) : AllClaimed o (claimObject acc o) :=
  foldl_establishes (f := claimAt o) (P := fun (x : MapEntry × Nat) acc => Claimed o.number x.2 x.1 acc)
    (fun x _ acc => claimTile_claimed o.number x.2 x.1 acc) (fun _ y _ h => claimTile_keeps o.number y.2 y.1 h) acc

/-- Slots alone differ, and they keep their form. -/
structure SlotsOnly (s t : State) : Prop where
  frame : t = { s with slots := t.slots }
  form : Assoc.wf slotDefault s.slots = true → Assoc.wf slotDefault t.slots = true

theorem SlotsOnly.refl (s : State) : SlotsOnly s s := ⟨rfl, id⟩

theorem SlotsOnly.trans (h : SlotsOnly s t) (k : SlotsOnly t u) : SlotsOnly s u :=
  ⟨by rw [k.frame, h.frame], fun hwf => k.form (h.form hwf)⟩

theorem slotsOnly_claimAll (s : State) : SlotsOnly s (claimAll s).1 := by
  have hobject (acc : State × List (Nat × Nat)) (o : ObjectRec) (h : SlotsOnly s acc.1) : SlotsOnly s (claimObject acc o).1 :=
    List.foldlRecOn _ _ (motive := fun (acc : State × List (Nat × Nat)) => SlotsOnly s acc.1) h fun acc h x _ =>
      h.trans ⟨(claimTile_frame o.number x.2 x.1 acc).1, (claimTile_frame o.number x.2 x.1 acc).2⟩
  rw [claimAll_eq]
  exact List.foldlRecOn s.objects claimObject (motive := fun (acc : State × List (Nat × Nat)) => SlotsOnly s acc.1) (b := (s, []))
    (SlotsOnly.refl s) fun acc h o _ => hobject acc o h

theorem placed_claimAll (s : State) : Placed (claimAll s).2 (claimAll s).1 := by
  have hclaimed : ∀ o ∈ s.objects, AllClaimed o (claimAll s) := by
    rw [claimAll_eq]
    exact foldl_establishes (fun o _ acc => claimObject_claimed o acc)
      (fun _ o acc h x hx => claimObject_keeps o (h x hx)) (s, [])
  intro o ho i m hm
  rw [(slotsOnly_claimAll s).frame] at ho
  exact hclaimed o ho (m, i) (List.mk_mem_zipIdx_iff_getElem?.mpr hm)

/-! ## Orphans -/

/-- The pool holds FREE tile slots, none twice. -/
structure PoolSound (s : State) : Prop where
  once : s.pool.Nodup
  free : ∀ n ∈ s.pool, 512 ≤ n ∧ (s.slot n).state = .free

theorem poolSound_rebuildPool (s : State) : PoolSound (rebuildPool s) := by
  have hrange : (List.range' 512 (configuredSlots s - 512)).Nodup := List.nodup_range'
  have hpool : (rebuildPool s).pool = (List.range' 512 (configuredSlots s - 512)).filter fun n => (s.slot n).state == .free := by
    rw [rebuildPool]
  refine ⟨by rw [hpool]; exact hrange.filter _, fun n hn => ?_⟩
  rw [hpool] at hn
  obtain ⟨hr, hf⟩ := List.mem_filter.mp hn
  have hst : (s.slot n).state = .free := beq_iff_eq.mp hf
  have hslot : (rebuildPool s).slot n = s.slot n := by simp only [rebuildPool, State.slot]
  exact ⟨(List.mem_range'_1.mp hr).1, by rw [hslot]; exact hst⟩

/-- The object whose position takes the slot `n`. -/
def orphanPlaced (index n : Nat) (o : ObjectRec) : ObjectRec :=
  { o with
    writtenCount := if (o.tileMap.getD index ⟨0, false⟩).written then o.writtenCount - 1 else o.writtenCount
    tileMap := o.tileMap.set index ⟨n, false⟩ }

theorem placeOrphan_eq {object index n : Nat} {pool : List Nat} (h : s.pool = n :: pool) : placeOrphan object index s =
    some (markDirty (markGroup n) (markDirty (objectGroup object) ((({ s with pool := pool }).setSlot n
      { s.slot n with state := .assigned, owner := .tile object index, written := false, damage := true }).modObject object
        (orphanPlaced index n)))) := by
  simp only [placeOrphan, h]
  rfl

theorem placeOrphan_none {object index : Nat} (h : s.pool = []) : placeOrphan object index s = none := by
  simp only [placeOrphan, h]

/-- Placing an orphan: its position owns the pool's first slot, the others keep theirs. -/
theorem placeOrphan_placed {object index : Nat} {orphans : List (Nat × Nat)} (h : placeOrphan object index s = some t)
    (hp : Placed ((object, index) :: orphans) s) (hpool : PoolSound s) : Placed orphans t ∧ PoolSound t := by
  cases hs : s.pool with
  | nil => rw [placeOrphan_none hs] at h; cases h
  | cons n pool =>
    rw [placeOrphan_eq hs] at h
    obtain rfl := Option.some.inj h
    obtain ⟨honce, hfree⟩ := hpool
    rw [hs] at honce hfree
    obtain ⟨hnot, honce⟩ := List.nodup_cons.mp honce
    obtain ⟨hlow, hn⟩ := hfree n List.mem_cons_self
    refine ⟨?_, honce, fun k hk => ?_⟩
    · intro o ho i m hm
      obtain ⟨q, hq, rfl⟩ := List.mem_map.mp ho
      have hkeep {i : Nat} {m : MapEntry} (hm : q.tileMap[i]? = some m) (hne : ¬ (q.number = object ∧ i = index)) :
          (q.number, i) ∈ orphans ∨ Owns ({ s with pool := pool }.setSlot n
            { s.slot n with state := .assigned, owner := .tile object index, written := false, damage := true }) q.number i m := by
        refine (hp q hq i m hm).imp (fun hmem => ?_) fun hown =>
          (hown.congr (t := { s with pool := pool }) rfl).setSlot_free (by
            change (s.slot n).state ≠ _
            rw [hn]
            decide)
        rcases List.mem_cons.mp hmem with heq | hmem
        · exact absurd (Prod.mk.inj heq) hne
        · exact hmem
      by_cases hnum : q.number = object
      · rw [if_pos hnum] at hm ⊢
        change (q.tileMap.set index ⟨n, false⟩)[i]? = some m at hm
        by_cases hi : index = i
        · subst hi
          rw [List.getElem?_set] at hm
          simp only [if_true] at hm
          split at hm
          · obtain rfl := Option.some.inj hm
            refine .inr ⟨hlow, ?_⟩
            change (({ s with pool := pool }.setSlot n _).slot n).state = _ ∧ (({ s with pool := pool }.setSlot n _).slot n).owner = _ ∧
              (({ s with pool := pool }.setSlot n _).slot n).written = _
            rw [slot_setSlot_new _ (assigned_ne_default hlow rfl)]
            exact ⟨rfl, by rw [← hnum]; rfl, rfl⟩
          · cases hm
        · rw [List.getElem?_set_ne hi] at hm
          exact (hkeep hm fun h => hi h.2.symm).imp id fun h => h.congr rfl
      · rw [if_neg hnum] at hm ⊢
        exact (hkeep hm fun h => hnum h.1).imp id fun h => h.congr rfl
    · have hne : k ≠ n := fun he => hnot (he ▸ hk)
      obtain ⟨hklow, hkst⟩ := hfree k (List.mem_cons_of_mem _ hk)
      refine ⟨hklow, ?_⟩
      change (({ s with pool := pool }.setSlot n _).slot k).state = _
      rw [slot_setSlot_other _ _ hne]
      exact hkst

theorem placeOrphans_placed {orphans : List (Nat × Nat)} (h : placeOrphans orphans s = some t) (hp : Placed orphans s)
    (hpool : PoolSound s) : Placed [] t ∧ PoolSound t := by
  induction orphans generalizing s with
  | nil =>
    obtain rfl := Option.some.inj h
    exact ⟨hp, hpool⟩
  | cons x rest ih =>
    obtain ⟨object, index⟩ := x
    rw [placeOrphans] at h
    split at h
    · cases h
    · next v hv =>
      obtain ⟨hpv, hpoolv⟩ := placeOrphan_placed hv hp hpool
      exact ih h hpv hpoolv

/-! ## The end of reconcile -/

/-- A recount changes no tile map, and no slot. -/
theorem placed_recountWhere {orphans : List (Nat × Nat)} (choose : ObjectRec → Bool) (h : Placed orphans s) :
    Placed orphans (recountWhere choose s) := by
  intro o ho i m hm
  obtain ⟨q, hq, rfl⟩ := List.mem_map.mp ho
  have hq' : q.tileMap[i]? = some m := by
    split at hm <;> exact hm
  have hnum : (if choose q then { q with impairedCount := impairedTiles s q } else q).number = q.number := by split <;> rfl
  rw [hnum]
  exact (h q hq i m hq').imp id fun h => h.congr rfl

/-- A slot joins the relocation list: its mark, and the list. -/
def listRelocation (s : State) (n : Nat) : State :=
  { s.setSlot n { s.slot n with relocationPending := true } with relocations := s.relocations ++ [n] }

theorem listRelocation_slot (n m : Nat) : ∃ pending, (listRelocation s n).slot m = { s.slot m with relocationPending := pending } := by
  by_cases h : m = n
  · subst h
    refine ⟨true, slot_setSlot_new s fun hd => ?_⟩
    have := congrArg SlotEntry.relocationPending hd
    unfold slotDefault at this
    split at this <;> cases this
  · exact ⟨_, slot_setSlot_other s _ h⟩

theorem rebuildRelocations_eq (s : State) : ∃ ns : List Nat, rebuildRelocations s = ns.foldl listRelocation { s with relocations := [] } := ⟨_, rfl⟩

/-- What the relocation list's rebuilding leaves: everything but the list and the slots' marks. -/
structure Relisted (s t : State) : Prop where
  frame : t = { s with slots := t.slots, relocations := t.relocations }
  slot : ∀ m, ∃ pending, t.slot m = { s.slot m with relocationPending := pending }
  form : Assoc.wf slotDefault s.slots = true → Assoc.wf slotDefault t.slots = true

theorem relisted_rebuildRelocations (s : State) : Relisted s (rebuildRelocations s) := by
  obtain ⟨ns, h⟩ := rebuildRelocations_eq s
  rw [h]
  refine List.foldlRecOn ns listRelocation (motive := Relisted s) ⟨rfl, fun m => ⟨_, rfl⟩, id⟩ fun v hv n _ => ⟨?_, fun m => ?_, fun hwf => ?_⟩
  · conv_lhs => rw [listRelocation, hv.frame]
    rfl
  · obtain ⟨x, hx⟩ := hv.slot m
    obtain ⟨y, hy⟩ := listRelocation_slot (s := v) n m
    exact ⟨y, by rw [hy, hx]⟩
  · exact wf_setSlot v _ _ (hv.form hwf)

theorem Relisted.placed {orphans : List (Nat × Nat)} (h : Relisted s t) (hp : Placed orphans s) : Placed orphans t := by
  intro o ho i m hm
  rw [h.frame] at ho
  refine (hp o ho i m hm).imp id fun ⟨hlow, hst, how, hw⟩ => ⟨hlow, ?_⟩
  obtain ⟨x, hx⟩ := h.slot m.slot
  rw [hx]
  exact ⟨hst, how, hw⟩

theorem Relisted.poolSound (h : Relisted s t) (hp : PoolSound s) : PoolSound t := by
  have hpool : t.pool = s.pool := by rw [h.frame]
  refine ⟨by rw [hpool]; exact hp.once, fun n hn => ?_⟩
  rw [hpool] at hn
  obtain ⟨x, hx⟩ := h.slot n
  rw [hx]
  exact hp.free n hn

/-- Reconcile leaves every tile position with a slot of its own, and the pool sound. -/
theorem reconcile_placed (h : reconcile s = some t) : Placed [] t ∧ PoolSound t := by
  unfold reconcile at h
  dsimp only at h
  split at h
  · cases h
  · next v hv =>
    obtain rfl := Option.some.inj h
    have hplaced := placed_claimAll (checkObjects (checkEditions (startEntries s)))
    have hlists : Placed (claimAll (checkObjects (checkEditions (startEntries s)))).2
        (rebuildPool (rebuildLists (claimAll (checkObjects (checkEditions (startEntries s)))).1)) :=
      fun o ho i m hm => (hplaced o ho i m hm).imp id fun h => h.congr rfl
    obtain ⟨hp, hpool⟩ := placeOrphans_placed hv hlists (poolSound_rebuildPool _)
    have hrelisted := relisted_rebuildRelocations (recountWhere (fun _ => true) v)
    exact ⟨hrelisted.placed (placed_recountWhere _ hp), hrelisted.poolSound ⟨hpool.once, hpool.free⟩⟩

theorem tilesOwned_of_placed (h : Placed [] s) : TilesOwned s := by
  intro o ho i m hm
  obtain ⟨-, hst, how, hw⟩ := (h o ho i m hm).resolve_left List.not_mem_nil
  exact ⟨hst, how, hw⟩

/-- Settles O59: a position claims its slot or is listed as orphaned (`placed_claimAll`), and every orphan takes a slot of the pool
(`placeOrphans_placed`). -/
theorem reconcileMakesTilesOwned : Obligations.ReconcileMakesTilesOwned :=
  fun _ _ _ _ h => tilesOwned_of_placed (reconcile_placed h).1

end Sys2Proof.Machine
end

section
/-!
PROOF. The format and the load of preparation, and its end: O58.
-/

namespace Sys2Proof.Machine

open Sys2Proof

variable {s t u : State} {p q : Port} {b : Burst}

/-! ## Tables with one record for each number -/

section
variable {α : Type} {rank : α → Nat} {x : α} {l : List α}

/-- A record put into a table by its number replaces what stood there. -/
def putBy (rank : α → Nat) (x : α) (l : List α) : List α := Assoc.insertBy rank x (l.filter fun q => rank q != rank x)

theorem find?_putBy_same : (putBy rank x l).find? (fun q => rank q == rank x) = some x := by
  refine Assoc.find?_insertBy_of_none (beq_self_eq_true _) (List.find?_eq_none.mpr fun q hq => ?_)
  simpa using (List.mem_filter.mp hq).2

theorem find?_putBy_other {k : Nat} (h : rank x ≠ k) : (putBy rank x l).find? (fun q => rank q == k) = l.find? fun q => rank q == k := by
  rw [putBy, Assoc.find?_insertBy_of_not (q := fun q => rank q == k) (beq_eq_false_iff_ne.mpr h), List.find?_filter]
  congr 1
  funext q
  by_cases hq : rank q = k
  · simp [hq, Ne.symm h]
  · simp [hq]

theorem mem_putBy_other {y : α} (h : rank x ≠ rank y) : y ∈ putBy rank x l ↔ y ∈ l := by
  have hne : (rank y != rank x) = true := by simpa using Ne.symm h
  rw [putBy, Assoc.mem_insertBy, List.mem_filter, hne]
  constructor
  · rintro (rfl | ⟨hm, -⟩)
    · exact absurd rfl h
    · exact hm
  · exact fun hm => .inr ⟨hm, rfl⟩

variable {β : Type} {f : β → α}

theorem foldl_putBy_other {k : Nat} {xs : List β} (h : ∀ z ∈ xs, rank (f z) ≠ k) (l : List α) :
    (xs.foldl (fun l z => putBy rank (f z) l) l).find? (fun q => rank q == k) = l.find? fun q => rank q == k := by
  induction xs generalizing l with
  | nil => rfl
  | cons z rest ih =>
    rw [List.foldl_cons, ih fun w hw => h w (List.mem_cons_of_mem _ hw), find?_putBy_other (h z List.mem_cons_self)]

theorem foldl_putBy_find {xs : List β} (h : (xs.map fun z => rank (f z)).Nodup) (l : List α) :
    ∀ z ∈ xs, (xs.foldl (fun l z => putBy rank (f z) l) l).find? (fun q => rank q == rank (f z)) = some (f z) := by
  induction xs generalizing l with
  | nil => exact fun z hz => absurd hz List.not_mem_nil
  | cons w rest ih =>
    rw [List.map_cons, List.nodup_cons] at h
    obtain ⟨hw, hrest⟩ := h
    intro z hz
    rw [List.foldl_cons]
    rcases List.mem_cons.mp hz with heq | hz
    · have hother : ∀ v ∈ rest, rank (f v) ≠ rank (f w) := fun v hv hvw => hw (List.mem_map.mpr ⟨v, hv, hvw⟩)
      rw [heq, foldl_putBy_other hother, find?_putBy_same]
    · exact ih hrest _ z hz

theorem mem_foldl_putBy {y : α} {xs : List β} (h : ∀ z ∈ xs, rank (f z) ≠ rank y) (l : List α) :
    y ∈ xs.foldl (fun l z => putBy rank (f z) l) l ↔ y ∈ l := by
  induction xs generalizing l with
  | nil => rfl
  | cons z rest ih =>
    rw [List.foldl_cons, ih fun w hw => h w (List.mem_cons_of_mem _ hw), mem_putBy_other (h z List.mem_cons_self)]

end

/-- The loads put each record by its position or its number. -/
theorem loadEditions_eq (es : List EditionImage) (s : State) : (loadEditions es s).editions =
    es.foldl (fun l e => putBy (·.position) (loadedEdition e) l) s.editions := rfl

theorem loadObjects_eq (os : List ObjectImage) (s : State) : (loadObjects os s).objects =
    os.foldl (fun l o => putBy (·.number) (loadedObject o) l) s.objects := rfl

/-! ## Marks -/

/-- The entry of a slot whose marks were loaded. -/
def markedEntry (m : SlotMarks) (e : SlotEntry) : SlotEntry :=
  { e with state := if m.retired then .retired else e.state, damage := m.damage, count := m.count }

theorem loadMarks_cons (m : SlotMarks) (ms : List SlotMarks) (s : State) :
    loadMarks (m :: ms) s = loadMarks ms (s.setSlot m.slot (markedEntry m (s.slot m.slot))) := rfl

theorem loadMarks_other {ms : List SlotMarks} {n : Nat} (h : ∀ m ∈ ms, m.slot ≠ n) (s : State) : (loadMarks ms s).slot n = s.slot n := by
  induction ms generalizing s with
  | nil => rfl
  | cons m rest ih =>
    rw [loadMarks_cons, ih fun q hq => h q (List.mem_cons_of_mem _ hq)]
    exact slot_setSlot_other s _ (Ne.symm (h m List.mem_cons_self))

theorem loadMarks_slot {ms : List SlotMarks} (h : (ms.map (·.slot)).Nodup) (hwf : Assoc.wf slotDefault s.slots = true) :
    ∀ m ∈ ms, (loadMarks ms s).slot m.slot = markedEntry m (s.slot m.slot) := by
  induction ms generalizing s with
  | nil => exact fun m hm => absurd hm List.not_mem_nil
  | cons w rest ih =>
    rw [List.map_cons, List.nodup_cons] at h
    obtain ⟨hw, hrest⟩ := h
    intro m hm
    rw [loadMarks_cons]
    rcases List.mem_cons.mp hm with heq | hm
    · have hother : ∀ v ∈ rest, v.slot ≠ w.slot := fun v hv hvw => hw (List.mem_map.mpr ⟨v, hv, hvw⟩)
      rw [heq, loadMarks_other hother]
      exact slot_setSlot_same s _ _ hwf
    · have hne : m.slot ≠ w.slot := fun heq => hw (List.mem_map.mpr ⟨m, hm, heq⟩)
      rw [ih hrest (wf_setSlot s _ _ hwf) m hm]
      exact congrArg (markedEntry m) (slot_setSlot_other s _ hne)

theorem loadMarks_frame (ms : List SlotMarks) (s : State) : loadMarks ms s = { s with slots := (loadMarks ms s).slots } := by
  induction ms generalizing s with
  | nil => rfl
  | cons m rest ih =>
    rw [loadMarks_cons, ih]
    rfl

/-! ## The load of a group -/

/-- A load changes the tables of the catalogue alone. -/
structure Loads (s t : State) : Prop where
  frame : t = { s with
    accounts := t.accounts, journal := t.journal, sequence := t.sequence, billingYear := t.billingYear, curves := t.curves
    schedule := t.schedule, year := t.year, editions := t.editions, objects := t.objects, slots := t.slots }

theorem loads_loadMarks (ms : List SlotMarks) : Loads s (loadMarks ms s) := ⟨by rw [loadMarks_frame]⟩

theorem loads_loadUnknown (g n : Nat) : Loads s (loadUnknown g n s) := by
  unfold loadUnknown
  split
  · exact ⟨rfl⟩
  · split
    · exact ⟨rfl⟩
    · split
      · exact ⟨rfl⟩
      · split
        · exact ⟨rfl⟩
        · exact loads_loadMarks _

theorem loads_loadGroup (g : Nat) (c : SlotContent) : Loads s (loadGroup g c s) := by
  unfold loadGroup
  split
  · exact ⟨rfl⟩
  · exact loads_loadUnknown g _
  all_goals first | exact ⟨rfl⟩ | exact loads_loadMarks _

/-- What a load read with no uncorrectable word leads to: its group taken, and marked where words were corrected. -/
def loadTaken (g : Nat) (errors : List WordError) (s : State) : State :=
  if errors = [] then loadGroup g (mediumRead s.medium g) s
  else if g = 1 then (loadGroup g (mediumRead s.medium g) s).billed else markDirty g (loadGroup g (mediumRead s.medium g) s)

section
variable {errors : List WordError}

theorem prepLoadTaken_of_single (h : ∀ e ∈ errors, wrongBits e.mask = 1) (g : Nat) : prepLoadTaken g (.delivered errors) s =
    if g = lastGroup s then endPreparation (loadTaken g errors s) else { loadTaken g errors s with prep := .load (g + 1) } := by
  have hlight := light_of_correctable fun e he => Or.inl (h e he)
  have hcount : (errors.countP fun e => decide (wrongBits e.mask = 1)) = errors.length :=
    List.countP_eq_length.mpr fun e he => decide_eq_true (h e he)
  have hany : ¬ (errors.any fun e => decide (wrongBits e.mask = 2)) = true := by
    rw [List.any_eq_true]
    rintro ⟨e, he, hd⟩
    rw [h e he] at hd
    exact absurd hd (by decide)
  have hresult : (deliver s g (.delivered errors)).result = if errors.length = 0 then .clean else .corrected errors.length := by
    rw [← hcount]
    exact (readResult_eq fun e he => .inl (h e he)).trans (if_neg hany)
  have hstrap (v : State) (hv : v.strap = s.strap) : lastGroup v = lastGroup s := by rw [lastGroup, lastGroup, hv]
  have hgroup : (loadGroup g (mediumRead s.medium g) s).strap = s.strap := by rw [(loads_loadGroup g _).frame]
  cases errors with
  | nil =>
    simp only [prepLoadTaken, hresult, hlight, loadTaken, List.length_nil, if_true, Bool.false_eq_true, if_false, hstrap _ hgroup]
  | cons e rest =>
    rw [if_neg (by simp)] at hresult
    have hbilled : lastGroup (loadGroup g (mediumRead s.medium g) s).billed = lastGroup s := hstrap _ hgroup
    have hdirty : lastGroup (markDirty g (loadGroup g (mediumRead s.medium g) s)) = lastGroup s := hstrap _ hgroup
    simp only [prepLoadTaken, hresult, hlight, loadTaken, Bool.false_eq_true, if_false, reduceCtorEq]
    split
    · rw [hbilled]
    · rw [hdirty]

theorem prepLoadTaken_of_double (h : ∀ e ∈ errors, wrongBits e.mask = 1 ∨ wrongBits e.mask = 2)
    (hd : ∃ e ∈ errors, wrongBits e.mask = 2) (g : Nat) : prepLoadTaken g (.delivered errors) s = fail s := by
  obtain ⟨k, hk⟩ := result_of_double (s := s) h hd g
  simp only [prepLoadTaken, hk]

end

/-! ## The end of preparation -/

theorem enterState_frame (d : DeviceState) (s : State) : enterState d s = { s with
    device := d, upkeep := (enterState d s).upkeep, portA := (enterState d s).portA, portB := (enterState d s).portB } := by
  unfold enterState
  rw [raiseDevice_frame, raiseDevice_frame]

theorem voidAll_journal (s : State) : (voidAll s).journal = s.journal.map fun e => if e.state = .provisional then voidEntry e else e := by
  unfold voidAll
  split
  · rfl
  · next h =>
    refine ((List.map_congr_left fun e he => if_neg fun hp => h ?_).trans (List.map_id _)).symm
    exact List.any_eq_true.mpr ⟨e, he, by rw [hp]; rfl⟩

theorem voidAll_billingPending (h : ∃ e ∈ s.journal, e.state = .provisional) : (voidAll s).billingPending = true := by
  obtain ⟨e, he, hp⟩ := h
  rw [voidAll, if_pos (List.any_eq_true.mpr ⟨e, he, by rw [hp]; rfl⟩)]

theorem endPreparation_none (h : reconcile (reconcileYear s) = none) : endPreparation s = fail s := by
  rw [endPreparation, h]

theorem endPreparation_some (h : reconcile (reconcileYear s) = some u) : endPreparation s =
    enterState (if u.powerWarn then .flushing else .ready) { rebuildDamage (voidAll u) with prep := .finished } := by
  have hwarn : (voidAll u).powerWarn = u.powerWarn := by rw [voidAll_frame]
  rw [endPreparation, h]

/-- Reconcile leaves the pin of the power warning. -/
theorem endPreparation_device (s : State) : (endPreparation s).prep = .finished ∧
    ((endPreparation s).device = .faulted ∨ ∃ u, reconcile (reconcileYear s) = some u ∧
      (endPreparation s).device = if u.powerWarn then .flushing else .ready) := by
  cases h : reconcile (reconcileYear s) with
  | none =>
    rw [endPreparation_none h]
    exact ⟨(fail_device s).2, .inl (fail_device s).1⟩
  | some u =>
    rw [endPreparation_some h]
    exact ⟨(enterState_device _ _).2, .inr ⟨u, rfl, (enterState_device _ _).1⟩⟩

/-- What reconcile can change. -/
structure TablesOnly (s t : State) : Prop where
  frame : t = { s with
    slots := t.slots, pool := t.pool, objects := t.objects, editions := t.editions, dirty := t.dirty, damage := t.damage
    relocations := t.relocations }

theorem TablesOnly.trans (h : TablesOnly s t) (k : TablesOnly t u) : TablesOnly s u := ⟨by rw [k.frame, h.frame]⟩

theorem tablesOnly_checkEditions : TablesOnly s (checkEditions s) := by
  refine List.foldlRecOn s.editions _ (motive := TablesOnly s) ⟨rfl⟩ fun v hv e _ => hv.trans ?_
  split <;> exact ⟨rfl⟩

theorem tablesOnly_checkObjects : TablesOnly s (checkObjects s) := by
  refine List.foldlRecOn s.objects _ (motive := TablesOnly s) ⟨rfl⟩ fun v hv e _ => hv.trans ?_
  split <;> exact ⟨rfl⟩

theorem tablesOnly_placeOrphan {object index : Nat} (h : placeOrphan object index s = some t) : TablesOnly s t := by
  cases hs : s.pool with
  | nil => rw [placeOrphan_none hs] at h; cases h
  | cons n pool =>
    rw [placeOrphan_eq hs] at h
    obtain rfl := Option.some.inj h
    exact ⟨rfl⟩

theorem tablesOnly_placeOrphans {orphans : List (Nat × Nat)} (h : placeOrphans orphans s = some t) : TablesOnly s t := by
  induction orphans generalizing s with
  | nil => obtain rfl := Option.some.inj h; exact ⟨rfl⟩
  | cons x rest ih =>
    rw [placeOrphans] at h
    split at h
    · cases h
    · next v hv => exact (tablesOnly_placeOrphan hv).trans (ih h)

theorem tablesOnly_claimAll : TablesOnly s (claimAll s).1 := ⟨by rw [(slotsOnly_claimAll s).frame]⟩

theorem tablesOnly_rebuildRelocations : TablesOnly s (rebuildRelocations s) := ⟨by rw [(relisted_rebuildRelocations s).frame]⟩

theorem tablesOnly_reconcile (h : reconcile s = some t) : TablesOnly s t := by
  unfold reconcile at h
  dsimp only at h
  split at h
  · cases h
  · next v hv =>
    obtain rfl := Option.some.inj h
    have hstart : TablesOnly s (startEntries s) := ⟨rfl⟩
    have hlists (c : State) : TablesOnly c (rebuildLists c) := ⟨rfl⟩
    have hpool (c : State) : TablesOnly c (rebuildPool c) := ⟨by rw [rebuildPool]⟩
    have hrecount : TablesOnly v (recountWhere (fun _ => true) v) := ⟨rfl⟩
    exact hstart.trans (tablesOnly_checkEditions.trans (tablesOnly_checkObjects.trans (tablesOnly_claimAll.trans ((hlists _).trans
      ((hpool _).trans ((tablesOnly_placeOrphans hv).trans (hrecount.trans tablesOnly_rebuildRelocations)))))))

theorem endPreparation_warned (h : reconcile (reconcileYear s) = some u) : u.powerWarn = s.powerWarn := by
  rw [(tablesOnly_reconcile h).frame]
  unfold reconcileYear
  split <;> rfl

/-- The objects whose tiles are damaged. -/
def damagedObjects (s : State) : List ObjectRec := s.objects.filter fun o => (firstDamaged s o).isSome

theorem rebuildDamage_eq (s : State) : rebuildDamage s = { s with
    damage := ((damagedObjects s).take 128).map (damageEntry s)
    objects := s.objects.map fun o => { o with withheld := (((damagedObjects s).drop 128).map (·.number)).contains o.number }
    overflow := !(((damagedObjects s).drop 128).map (·.number)).isEmpty } := rfl

/-! ## The rows -/

section
variable {errors : List WordError}

/-- A format write: a fault faults the part, and a completed one goes on to the next group. -/
theorem format_proceeds (hb : s.burst = some b) (hw : b.work = .prepFormat) :
    (∃ t, exec (.formatWriteComplete .mediumFault) s = .next (settle t) ∧ t.device = .faulted) ∧
    ∃ t, exec (.formatWriteComplete .done) s = .next (settle t) ∧
      (MediumCanonical s → ∀ content, b.content = some content → mediumRead t.medium b.slot = content ∧
        ∀ n, n ≠ b.slot → mediumRead t.medium n = mediumRead s.medium n) ∧
      (0 < b.slot → t.device = s.device ∧ t.prep = if b.slot = lastGroup s then .format 0 else .format (b.slot + 1)) ∧
      (b.slot = 0 → t.prep = .finished ∧ (t.device = .faulted ∨ t.device = if s.powerWarn then .flushing else .ready)) := by
  refine ⟨⟨_, exec_formatWriteComplete .mediumFault hb hw, (fail_device _).1⟩, ?_⟩
  have hexec := exec_formatWriteComplete .done hb hw
  rw [endWrite_eq, show WriteEnd.isDone .done = true from rfl] at hexec
  have hmedium := (keeps_prepFormatTaken (s := writeEnded b true s) b.slot true).medium
  have hframe := writeEnded_frame b true s
  refine ⟨_, hexec, fun hm content hc => ?_, fun hpos => ?_, fun hzero => ?_⟩
  · rw [hmedium]
    exact ⟨writeEnded_done hm hc, fun n hn => writeEnded_other b true s hn⟩
  · have htaken : prepFormatTaken b.slot true (writeEnded b true s) = { writeEnded b true s with
        prep := .format (if b.slot = lastGroup (writeEnded b true s) then 0 else b.slot + 1) } := by
      rw [prepFormatTaken, Bool.not_true, if_neg Bool.false_ne_true, if_neg (by omega)]
    have hgroup : lastGroup (writeEnded b true s) = lastGroup s := by rw [hframe]; rfl
    rw [htaken, hgroup]
    refine ⟨by rw [hframe], ?_⟩
    split <;> rfl
  · have htaken : prepFormatTaken b.slot true (writeEnded b true s) = endPreparation (writeEnded b true s) := by
      rw [prepFormatTaken, Bool.not_true, if_neg Bool.false_ne_true, if_pos hzero]
    rw [htaken]
    obtain ⟨hprep, hdevice⟩ := endPreparation_device (writeEnded b true s)
    refine ⟨hprep, hdevice.imp id ?_⟩
    rintro ⟨u, hu, hd⟩
    rw [hd, endPreparation_warned hu, hframe]

/-- Where no retried burst's bank was OFFLINE, the tables that a load takes over are those of `s`. -/
theorem readEnded_tables (h : bankOffline s (b.slot / 16384) = false) : (readEnded b true s).objects = s.objects ∧
    (readEnded b true s).slots = s.slots := by
  rw [readEnded_done_frame h]
  exact ⟨rfl, rfl⟩

/-- A load read with no uncorrectable word that is not the last goes on to the next group. -/
theorem load_proceeds (hb : s.burst = some b) (hw : b.work = .prepLoad) (hone : ∀ e ∈ errors, wrongBits e.mask = 1)
    (hlast : b.slot ≠ lastGroup s) : exec (.loadReadComplete (.delivered errors)) s =
      .next (settle { loadTaken b.slot errors (readEnded b true s) with prep := .load (b.slot + 1) }) := by
  have hgroup : lastGroup (readEnded b true s) = lastGroup s := by rw [readEnded_frame]; rfl
  rw [exec_loadReadComplete (.delivered errors) hb hw, endRead_delivered (light_of_correctable fun e he => .inl (hone e he)),
    prepLoadTaken_of_single hone, hgroup, if_neg hlast]

theorem load_ends (hb : s.burst = some b) (hw : b.work = .prepLoad) (hone : ∀ e ∈ errors, wrongBits e.mask = 1)
    (hlast : b.slot = lastGroup s) : exec (.loadReadComplete (.delivered errors)) s =
      .next (settle (endPreparation (loadTaken b.slot errors (readEnded b true s)))) := by
  have hgroup : lastGroup (readEnded b true s) = lastGroup s := by rw [readEnded_frame]; rfl
  rw [exec_loadReadComplete (.delivered errors) hb hw, endRead_delivered (light_of_correctable fun e he => .inl (hone e he)),
    prepLoadTaken_of_single hone, hgroup, if_pos hlast]

/-- The tables that a load leaves are those of its group's load: the marks on the group change none. -/
theorem loadTaken_tables (g : Nat) (errors : List WordError) (s : State) : loadTaken g errors s =
    { loadGroup g (mediumRead s.medium g) s with
      dirty := (loadTaken g errors s).dirty, billingPending := (loadTaken g errors s).billingPending } := by
  unfold loadTaken
  split
  · rfl
  · split <;> rfl

theorem loadTaken_marks (hne : errors ≠ []) (g : Nat) (s : State) :
    (g ≠ 1 → g ∈ (loadTaken g errors s).dirty) ∧ (g = 1 → (loadTaken g errors s).billingPending = true) := by
  unfold loadTaken
  rw [if_neg hne]
  refine ⟨fun hg => ?_, fun hg => ?_⟩
  · rw [if_neg hg]
    exact mem_dirty_mark.mpr (.inr rfl)
  · rw [if_pos hg]
    rfl

end

/-- Settles O58: the format by `format_proceeds`, each load by the lemmas of `putBy` and `loadMarks`, and the end of preparation by
`endPreparation_some`. -/
theorem formatAndLoadProceed : Obligations.FormatAndLoadProceed := by
  refine ⟨fun b s hb hw => format_proceeds hb hw, fun g s hd hb hp => ?_, fun b errors s hb hw herr => ⟨?_, fun hd => ?_, fun hone hlast => ?_,
    fun hone hlast => ?_⟩, fun s => ⟨fun h => ?_, fun u h => ?_⟩⟩
  · have hstart : prepStart s = some (startBurst .prepFormat g (some (groupImage s g)) (startWrite g s)) := by
      simp only [prepStart, hd, hb, hp, ne_eq, not_true_eq_false, Option.isSome_none, Bool.false_eq_true, or_self, if_false]
    refine ⟨_, hstart, rfl, ?_, ?_⟩
    · change (startWrite g s).prep = _
      rw [startWrite_frame]
      exact hp
    · change (startWrite g s).medium = _
      rw [startWrite_frame]
  · exact ⟨_, exec_loadReadComplete .mediumFault hb hw, (fail_device _).1⟩
  · have hexec := exec_loadReadComplete (.delivered errors) hb hw
    rw [endRead_delivered (light_of_correctable herr), prepLoadTaken_of_double herr hd] at hexec
    exact ⟨_, hexec, (fail_device _).1⟩
  · have hexec := load_proceeds hb hw hone hlast
    have hframe := readEnded_frame b true s
    have htables := loadTaken_tables b.slot errors (readEnded b true s)
    have hmarks := fun hne => loadTaken_marks (errors := errors) hne b.slot (readEnded b true s)
    have hsound := readEnded_tables (s := s) (b := b)
    generalize readEnded b true s = u at hexec hframe htables hmarks hsound
    have hmedium : u.medium = s.medium := by rw [hframe]
    have heditions : u.editions = s.editions := by rw [hframe]
    have haccounts : u.accounts = s.accounts := by rw [hframe]
    rw [hmedium] at htables
    generalize loadTaken b.slot errors u = v at hexec htables hmarks
    have hload {image : SlotContent} (h : mediumRead s.medium b.slot = image) : v = { loadGroup b.slot image u with
        dirty := v.dirty, billingPending := v.billingPending } := by rw [← h]; exact htables
    refine ⟨_, hexec, rfl, ?_, fun hne h1 => (hmarks hne).1 h1, fun hne h1 => (hmarks hne).2 h1, fun i hi => ?_, fun i hi => ?_,
      fun es hes hnodup => ⟨fun e he => ?_, fun q hq => ?_⟩, fun hoff => ?_⟩
    · change v.device = _
      rw [htables, (loads_loadGroup b.slot _).frame, hframe]
    · change v.accounts = _ ∧ v.journal = _ ∧ v.sequence = _ ∧ v.billingYear = _
      rw [hload hi]
      exact ⟨rfl, rfl, rfl, rfl⟩
    · change v.curves = _ ∧ v.schedule = _ ∧ v.year = _
      rw [hload hi]
      exact ⟨rfl, rfl, rfl⟩
    · change v.editions.find? _ = _
      rw [hload hes]
      exact foldl_putBy_find (rank := fun e : EditionRec => e.position) (f := loadedEdition) hnodup u.editions e he
    · change q ∈ v.editions ↔ _
      rw [hload hes, ← heditions]
      exact mem_foldl_putBy (rank := fun e : EditionRec => e.position) (f := loadedEdition) hq u.editions
    · obtain ⟨hobjects, hslots⟩ := hsound hoff
      have hslot (n : Nat) : u.slot n = s.slot n := by rw [State.slot, State.slot, hslots]
      refine ⟨fun os hos hnodup => ⟨fun o ho => ?_, fun n hn => ?_⟩, fun ms hms hnodup hwf => ⟨fun m hm => ?_, fun n hn => ?_⟩, fun hw => ?_⟩
      · change v.objects.find? _ = _
        rw [hload hos]
        exact foldl_putBy_find (rank := fun o : ObjectRec => o.number) (f := loadedObject) hnodup u.objects o ho
      · change v.objects.find? _ = s.objects.find? _
        rw [hload hos, ← hobjects]
        exact foldl_putBy_other (rank := fun o : ObjectRec => o.number) (f := loadedObject) hn u.objects
      · change v.slot m.slot = _
        rw [hload hms, ← hslot]
        exact loadMarks_slot hnodup (by rw [hslots]; exact hwf) m hm
      · change v.slot n = _
        rw [hload hms, ← hslot]
        exact loadMarks_other hn u
      · change v.editions = _ ∧ v.objects = _ ∧ v.slots = _ ∧ v.accounts = _
        rw [hload hw]
        exact ⟨heditions, hobjects, hslots, haccounts⟩
  · rw [load_ends hb hw hone hlast]
    intro ended loaded
    have hu : readEnded b true s = if b.retry then setBank (b.slot / 16384) .suspect ended else ended := rfl
    have hmedium : (readEnded b true s).medium = s.medium := by rw [readEnded_frame]
    have hloaded : loadGroup b.slot (mediumRead (readEnded b true s).medium b.slot) (readEnded b true s) = loaded := by rw [hmedium, hu]
    have hne1 : b.slot ≠ 1 := by rw [hlast]; unfold lastGroup; omega
    have htaken : loadTaken b.slot errors (readEnded b true s) =
        if errors = [] then loaded else { loaded with dirty := Assoc.addNat b.slot loaded.dirty } := by
      rw [loadTaken, hloaded, if_neg hne1]
      rfl
    rw [htaken]
  · rw [endPreparation_none h]
    exact ⟨(fail_device s).1, (fail_device s).2⟩
  · intro t damaged
    have ht : t = enterState (if u.powerWarn then .flushing else .ready) { rebuildDamage (voidAll u) with prep := .finished } :=
      endPreparation_some h
    have hvoid := voidAll_frame u
    have hjournal := voidAll_journal u
    have hpending := voidAll_billingPending (s := u)
    have hdamaged : damagedObjects (voidAll u) = damaged := by rw [hvoid]; rfl
    have hentry : damageEntry (voidAll u) = damageEntry u := by rw [hvoid]; rfl
    have hrebuilt := rebuildDamage_eq (voidAll u)
    rw [hdamaged, hentry] at hrebuilt
    generalize voidAll u = v at ht hvoid hjournal hpending hrebuilt
    rw [hrebuilt, enterState_frame] at ht
    rw [ht]
    refine ⟨rfl, rfl, ?_, ?_, ?_, ?_, ?_, hjournal, hpending, rfl, fun o ho => ?_, ?_⟩
    · change v.editions = _
      rw [hvoid]
    · change v.slots = _
      rw [hvoid]
    · change v.pool = _
      rw [hvoid]
    · change v.relocations = _
      rw [hvoid]
    · change v.accounts = _
      rw [hvoid]
    · obtain ⟨q, -, rfl⟩ := List.mem_map.mp ho
      exact List.contains_iff_mem
    · change (!((damaged.drop 128).map (·.number)).isEmpty) = _
      rw [List.isEmpty_map, Bool.eq_iff_iff, Bool.not_eq_true', List.isEmpty_eq_false_iff, Ne, List.drop_eq_nil_iff, decide_eq_true_eq,
        Nat.not_le]

end Sys2Proof.Machine
end

section
/-!
PROOF. The power warning, the ends of the operations it meets, and the end of FLUSHING: O60.
-/

namespace Sys2Proof.Machine

open Sys2Proof

variable {s t u : State} {p q : Port} {b : Burst}

/-! ## Entries voided -/

/-- The entry stands, or was PROVISIONAL and is void. -/
def VoidedFrom (e x : JournalEntry) : Prop := x = e ∨ (e.state = .provisional ∧ x = voidEntry e)

/-- A PROVISIONAL entry is made void, any other stands (R23). -/
def voided (e : JournalEntry) : JournalEntry := if e.state = .provisional then voidEntry e else e

/-- Some PROVISIONAL entries are voided, with a billing flush pending where one was. -/
structure Voids (s t : State) : Prop where
  journal : List.Forall₂ VoidedFrom s.journal t.journal
  pending : s.billingPending = true → t.billingPending = true
  owed : t.journal = s.journal ∨ t.billingPending = true

theorem VoidedFrom.trans {e f g : JournalEntry} (h : VoidedFrom e f) (k : VoidedFrom f g) : VoidedFrom e g := by
  rcases h with rfl | ⟨hp, rfl⟩
  · exact k
  · rcases k with rfl | ⟨hv, -⟩
    · exact .inr ⟨hp, rfl⟩
    · cases hv

theorem VoidedFrom.voided {e f : JournalEntry} (h : VoidedFrom e f) : Machine.voided f = Machine.voided e := by
  rcases h with rfl | ⟨hp, rfl⟩
  · rfl
  · rw [Machine.voided, Machine.voided, if_pos hp, if_neg (by simp [voidEntry])]

theorem forall₂_trans {l m n : List JournalEntry} (h : List.Forall₂ VoidedFrom l m) (k : List.Forall₂ VoidedFrom m n) :
    List.Forall₂ VoidedFrom l n := by
  induction h generalizing n with
  | nil => exact k
  | cons hx _ ih =>
    cases k with
    | cons ky krest => exact .cons (hx.trans ky) (ih krest)

theorem forall₂_refl (l : List JournalEntry) : List.Forall₂ VoidedFrom l l := List.forall₂_same.mpr fun _ _ => .inl rfl

theorem Voids.of_same (hj : t.journal = s.journal) (hb : t.billingPending = s.billingPending) : Voids s t :=
  ⟨by rw [hj]; exact forall₂_refl _, fun h => hb.trans h, .inl hj⟩

theorem Voids.trans (h : Voids s t) (k : Voids t u) : Voids s u :=
  ⟨forall₂_trans h.journal k.journal, k.pending ∘ h.pending, k.owed.elim
    (fun hj => h.owed.imp hj.trans k.pending) .inr⟩

theorem map_voided {l m : List JournalEntry} (h : List.Forall₂ VoidedFrom l m) : m.map voided = l.map voided := by
  induction h with
  | nil => rfl
  | cons hx _ ih => rw [List.map_cons, List.map_cons, hx.voided, ih]

theorem find?_voids {l m : List JournalEntry} {n : BitVec 32} {e : JournalEntry} (h : List.Forall₂ VoidedFrom l m)
    (he : l.find? (fun f => f.sequence == n) = some e) : ∃ x, m.find? (fun f => f.sequence == n) = some x ∧ VoidedFrom e x := by
  induction h with
  | nil => cases he
  | @cons a c _ _ hx _ ih =>
    have hseq : c.sequence = a.sequence := by
      rcases hx with rfl | ⟨-, rfl⟩ <;> rfl
    rw [List.find?_cons] at he
    rw [List.find?_cons, hseq]
    by_cases ha : (a.sequence == n) = true
    · simp only [ha] at he ⊢
      obtain rfl := Option.some.inj he
      exact ⟨c, rfl, hx⟩
    · rw [Bool.not_eq_true] at ha
      simp only [ha] at he ⊢
      exact ih he

/-- One order's entry voided, if it is PROVISIONAL. -/
def voidedAs (n : BitVec 32) (e : JournalEntry) : JournalEntry := if e.sequence = n ∧ e.state = .provisional then voidEntry e else e

theorem voidOrder_journal (n : BitVec 32) (s : State) : (voidOrder n s).journal = s.journal.map (voidedAs n) := by
  unfold voidOrder
  split
  · rfl
  · next h =>
    refine ((List.map_congr_left fun e he => if_neg ?_).trans (List.map_id _)).symm
    rintro ⟨hn, hp⟩
    exact h (List.any_eq_true.mpr ⟨e, he, by simp [hn, hp]⟩)

theorem voids_voidOrder (n : BitVec 32) (s : State) : Voids s (voidOrder n s) := by
  refine ⟨?_, ?_, ?_⟩
  · rw [voidOrder_journal, List.forall₂_map_right_iff]
    refine List.forall₂_same.mpr fun e _ => ?_
    unfold voidedAs
    split
    · next h => exact .inr ⟨h.2, rfl⟩
    · exact .inl rfl
  · intro h
    unfold voidOrder
    split
    · rfl
    · exact h
  · unfold voidOrder
    split
    · exact .inr rfl
    · exact .inl rfl

/-- After an order's entry was voided, it is found void, whoever voided it. -/
theorem findEntry_voidOrder {n : BitVec 32} {e : JournalEntry} (h : Voids s t) (he : s.findEntry n = some e) (hp : e.state = .provisional) :
    (voidOrder n t).findEntry n = some (voidEntry e) := by
  obtain ⟨x, hx, hvoid⟩ := find?_voids h.journal he
  have hseq : x.sequence = n := by simpa using List.find?_some hx
  have hkeep : ((fun f : JournalEntry => f.sequence == n) ∘ voidedAs n) = fun f => f.sequence == n := by
    funext f
    simp only [Function.comp_apply, voidedAs]
    split <;> rfl
  rw [State.findEntry, voidOrder_journal, List.find?_map, hkeep, hx, Option.map_some]
  rcases hvoid with rfl | ⟨-, rfl⟩
  · rw [voidedAs, if_pos ⟨hseq, hp⟩]
  · rw [voidedAs, if_neg (by simp [voidEntry])]

/-! ## The end of an operation, as CANCEL and the power warning make it -/

/-- What the end of a port's operation can change: the port, the lock table, and PROVISIONAL entries. -/
structure Ends (p : Port) (s t : State) : Prop where
  frame : t = { s with
    portA := t.portA, portB := t.portB, locks := t.locks, journal := t.journal, billingPending := t.billingPending }
  other : ∀ q, q ≠ p → t.port q = s.port q
  voids : Voids s t
  unlocked : ∀ k, lockOf s k = none → lockOf t k = none

theorem Ends.refl (p : Port) (s : State) : Ends p s s := ⟨rfl, fun _ _ => rfl, .of_same rfl rfl, fun _ => id⟩

theorem Ends.trans (h : Ends p s t) (k : Ends p t u) : Ends p s u :=
  ⟨by rw [k.frame, h.frame], fun q hq => (k.other q hq).trans (h.other q hq), h.voids.trans k.voids,
    fun x hx => k.unlocked x (h.unlocked x hx)⟩

theorem ends_modPort (f : PortEngine → PortEngine) : Ends p s (s.modPort p f) :=
  ⟨by cases p <;> rfl, fun _ hq => modPort_port_other s _ hq, .of_same (modPort_journal ..) (modPort_billingPending ..),
    fun k hk => (lockOf_congr (modPort_locks ..)).trans hk⟩

theorem ends_voidOrder (n : BitVec 32) : Ends p s (voidOrder n s) := by
  refine ⟨by rw [voidOrder_frame], fun q _ => voidOrder_port n q s, voids_voidOrder n s, fun k hk => ?_⟩
  rw [lockOf_congr (s := s) (by rw [voidOrder_frame]), hk]

theorem ends_removeLock (k : EditionKey) : Ends p s (removeLock k s) :=
  ⟨rfl, fun q _ => by cases q <;> rfl, .of_same rfl rfl, fun _ hk => lockOf_removeLock_none (.inr hk)⟩

theorem ends_cancelOp (p : Port) (s : State) : Ends p s (cancelOp p s) := by
  have hdiscard {v : State} (h : Ends p s v) : Ends p s (v.modPort p fun e => { e with inq := discardData e.inq }) :=
    h.trans (ends_modPort _)
  have hop {v : State} (o : Op) (h : Ends p s v) : Ends p s (v.setOp p o) := h.trans (ends_modPort _)
  have horder (o : OrderCtx) {v : State} (h : Ends p s v) : Ends p s (orderCancelled p o v) := by
    unfold orderCancelled dropSnapshot respond
    exact (hop _ h).trans (ends_modPort _)
  have hrender (c : RenderCtx) {v : State} (h : Ends p s v) : Ends p s (renderCancelled p c v) := by
    unfold renderCancelled dropSnapshot respond
    exact (hop _ h).trans (ends_modPort _)
  unfold cancelOp
  dsimp only
  split
  · split
    · exact hdiscard (hop _ (.refl p s))
    · exact .refl p s
  · split
    · exact .refl p s
    · split
      · exact hdiscard (hop _ (.refl p s))
      · exact hdiscard (hrender _ (.refl p s))
  · split
    · exact hdiscard (horder _ (ends_voidOrder _))
    · split
      · exact .refl p s
      · split
        · exact hdiscard (hop _ (ends_voidOrder _))
        · exact hdiscard (horder _ (ends_voidOrder _))
    · exact .refl p s
  · exact hdiscard (hop _ (ends_removeLock _))
  · exact hdiscard (hop _ (.refl p s))
  all_goals exact .refl p s

theorem ends_powerEnds (p : Port) (s : State) : Ends p s (powerEnds p s) := by
  unfold powerEnds
  split
  · exact .refl p s
  · exact ends_cancelOp p s

/-! ## POWER_WARN asserted -/

/-- A port but for its records and marks: what the entry of a device state leaves of it. -/
structure SamePort (e f : PortEngine) : Prop where
  op : f.op = e.op
  inq : f.inq = e.inq
  restart : f.restart = e.restart
  snapshot : f.snapshot = e.snapshot

theorem raiseDevice_samePort (p q : Port) (s : State) : SamePort (s.port q) ((raiseDevice p s).port q) := by
  unfold raiseDevice
  split <;> cases p <;> cases q <;> exact ⟨rfl, rfl, rfl, rfl⟩

theorem enterState_samePort (d : DeviceState) (q : Port) (s : State) : SamePort (s.port q) ((enterState d s).port q) := by
  have hone := raiseDevice_samePort .a q { s with
    device := d, upkeep := { s.upkeep with timerRunning := d == .ready && scrubMode s.strap != .strobeOnly, timer := 0 } }
  have htwo := raiseDevice_samePort .b q (raiseDevice .a { s with
    device := d, upkeep := { s.upkeep with timerRunning := d == .ready && scrubMode s.strap != .strobeOnly, timer := 0 } })
  have hself : SamePort (s.port q) (({ s with device := d, upkeep := { s.upkeep with
      timerRunning := d == .ready && scrubMode s.strap != .strobeOnly, timer := 0 } } : State).port q) := by
    cases q <;> exact ⟨rfl, rfl, rfl, rfl⟩
  exact ⟨htwo.op.trans (hone.op.trans hself.op), htwo.inq.trans (hone.inq.trans hself.inq),
    htwo.restart.trans (hone.restart.trans hself.restart), htwo.snapshot.trans (hone.snapshot.trans hself.snapshot)⟩

/-- The state in which the power warning meets a port's operation: the port and the burst are as they stood. -/
structure Meets (p : Port) (s v : State) : Prop where
  port : SamePort (s.port p) (v.port p)
  burst : v.burst = s.burst
  voids : Voids s v

theorem stopUpkeep_port (s : State) (q : Port) : (stopUpkeep s).port q = s.port q := by
  rw [stopUpkeep_frame]
  cases q <;> rfl

theorem voidAll_port (s : State) (q : Port) : (voidAll s).port q = s.port q := by
  rw [voidAll_frame]
  cases q <;> rfl

theorem stopUpkeep_locks (s : State) : (stopUpkeep s).locks = s.locks := by rw [stopUpkeep_frame]

theorem voidAll_locks (s : State) : (voidAll s).locks = s.locks := by rw [voidAll_frame]

theorem enterFlushing_meets (p : Port) (s : State) : ∃ v, Meets p s v ∧ (enterFlushing s).port p = (powerEnds p v).port p ∧
    ∀ k, lockOf (powerEnds p v) k = none → lockOf (enterFlushing s) k = none := by
  have hstart : Meets p s (enterState .flushing s) :=
    ⟨enterState_samePort _ p s, by rw [enterState_frame], .of_same (by rw [enterState_frame]) (by rw [enterState_frame])⟩
  have ha := ends_powerEnds .a (enterState .flushing s)
  have hb := ends_powerEnds .b (powerEnds .a (enterState .flushing s))
  have hport (q : Port) : (enterFlushing s).port q = (powerEnds .b (powerEnds .a (enterState .flushing s))).port q :=
    (stopUpkeep_port _ q).trans (voidAll_port _ q)
  have hlocks (k : EditionKey) : lockOf (enterFlushing s) k = lockOf (powerEnds .b (powerEnds .a (enterState .flushing s))) k :=
    lockOf_congr ((stopUpkeep_locks _).trans (voidAll_locks _))
  cases p with
  | a => exact ⟨_, hstart, (hport .a).trans (hb.other .a (by decide)), fun k hk => (hlocks k).trans (hb.unlocked k hk)⟩
  | b =>
    refine ⟨powerEnds .a (enterState .flushing s), ⟨?_, ?_, hstart.voids.trans ha.voids⟩, hport .b, fun k hk => (hlocks k).trans hk⟩
    · rw [ha.other .b (by decide)]
      exact hstart.port
    · rw [ha.frame]
      exact hstart.burst

theorem cutOp_port (s : State) (p : Port) (o : Op) :
    (s.cutOp p o).port p = { s.port p with op := o, inq := discardData (s.port p).inq } := modPort_port_same s p _

theorem cutRender_port (s : State) (p : Port) (o : Op) :
    (s.cutRender p o).port p = { s.port p with op := o, snapshot := none, inq := discardData (s.port p).inq } :=
  modPort_port_same s p _

theorem portInBurst_congr (h : t.burst = s.burst) : portInBurst p t = portInBurst p s := by rw [portInBurst, portInBurst, h]

theorem snapshotSet_congr (h : (t.port p).snapshot = (s.port p).snapshot) : snapshotSet t p = snapshotSet s p := by
  rw [snapshotSet, snapshotSet, h]

theorem powerEnds_of_restart (h : (s.port p).restart ≠ .none) : powerEnds p s = s := if_pos h

theorem powerEnds_of_none (h : (s.port p).restart = .none) : powerEnds p s = cancelOp p s := if_neg (not_not_intro h)

section
variable {v : State} (hm : Meets p s v)
include hm

/-- An operation that the power warning leaves alone stands, with its input queue. -/
theorem kept_of_same (h : powerEnds p v = v) : ((powerEnds p v).port p).op = (s.port p).op ∧
    ((powerEnds p v).port p).inq = (s.port p).inq := by
  rw [h]
  exact ⟨hm.port.op, hm.port.inq⟩

/-- An operation that is replaced. -/
theorem becomes_of_cutOp {o : Op} {w : State} (h : powerEnds p v = w.cutOp p o) (hw : w.port p = v.port p) :
    ((powerEnds p v).port p).op = o ∧
      ((powerEnds p v).port p).inq = (s.port p).inq.dropWhile fun r => headerIsData r.header := by
  rw [h, cutOp_port, hw]
  exact ⟨rfl, congrArg discardData hm.port.inq⟩

theorem becomes_of_cutRender {o : Op} {w : State} (h : powerEnds p v = w.cutRender p o) (hw : w.port p = v.port p) :
    ((powerEnds p v).port p).op = o ∧
      ((powerEnds p v).port p).inq = (s.port p).inq.dropWhile fun r => headerIsData r.header := by
  rw [h, cutRender_port, hw]
  exact ⟨rfl, congrArg discardData hm.port.inq⟩

end

/-- The journal after POWER_WARN: every PROVISIONAL entry void, whoever voided it (R23). -/
theorem enterFlushing_journal (s : State) : (enterFlushing s).journal = s.journal.map voided ∧
    ((∃ e ∈ s.journal, e.state = .provisional) → (enterFlushing s).billingPending = true) := by
  have hstart : Voids s (enterState .flushing s) := .of_same (by rw [enterState_frame]) (by rw [enterState_frame])
  have hv := (hstart.trans (ends_powerEnds .a (enterState .flushing s)).voids).trans
    (ends_powerEnds .b (powerEnds .a (enterState .flushing s))).voids
  have hjournal : (enterFlushing s).journal = (voidAll (powerEnds .b (powerEnds .a (enterState .flushing s)))).journal := by
    rw [enterFlushing, stopUpkeep_frame]
  have hbilling : (enterFlushing s).billingPending =
      (voidAll (powerEnds .b (powerEnds .a (enterState .flushing s)))).billingPending := by
    rw [enterFlushing, stopUpkeep_frame]
  rw [hjournal, hbilling]
  generalize powerEnds .b (powerEnds .a (enterState .flushing s)) = w at hv
  refine ⟨(voidAll_journal w).trans (map_voided hv.journal), fun hp => ?_⟩
  rcases hv.owed with hj | hb
  · exact voidAll_billingPending (by rw [hj]; exact hp)
  · unfold voidAll
    split
    · rfl
    · exact hb

/-- What POWER_WARN in READY can change. -/
structure WarnOnly (s t : State) : Prop where
  frame : t = { s with
    device := t.device, upkeep := t.upkeep, portA := t.portA, portB := t.portB, locks := t.locks, journal := t.journal
    billingPending := t.billingPending, burst := t.burst, slots := t.slots, pool := t.pool }

theorem WarnOnly.trans (h : WarnOnly s t) (k : WarnOnly t u) : WarnOnly s u := ⟨by rw [k.frame, h.frame]⟩

theorem warnOnly_enterFlushing (s : State) : WarnOnly s (enterFlushing s) := by
  have henter : WarnOnly s (enterState .flushing s) := ⟨by rw [enterState_frame]⟩
  have hends (p : Port) (v : State) : WarnOnly v (powerEnds p v) := ⟨by rw [(ends_powerEnds p v).frame]⟩
  have hvoid (v : State) : WarnOnly v (voidAll v) := ⟨by rw [voidAll_frame]⟩
  have hstop (v : State) : WarnOnly v (stopUpkeep v) := ⟨by rw [stopUpkeep_frame]⟩
  exact henter.trans ((hends .a _).trans ((hends .b _).trans ((hvoid _).trans (hstop _))))

theorem stopUpkeep_upkeep (s : State) : (stopUpkeep s).upkeep = { s.upkeep with buffer := (stopUpkeep s).upkeep.buffer } ∧
    (stopUpkeep s).device = s.device ∧ (s.burst = none → (stopUpkeep s).upkeep.buffer = none) := by
  refine ⟨by rw [stopUpkeep_frame], by rw [stopUpkeep_frame], fun hb => ?_⟩
  simp only [stopUpkeep, hb]
  exact dropCopy_buffer s

/-- Up to the ends of the operations the device state, the burst and the upkeep engine are as FLUSHING is entered with. -/
theorem flushingEnds_same (s : State) : (voidAll (powerEnds .b (powerEnds .a (enterState .flushing s)))).device = .flushing ∧
    (voidAll (powerEnds .b (powerEnds .a (enterState .flushing s)))).burst = s.burst ∧
    (voidAll (powerEnds .b (powerEnds .a (enterState .flushing s)))).upkeep = (enterState .flushing s).upkeep := by
  have hb := (ends_powerEnds .b (powerEnds .a (enterState .flushing s))).frame
  have ha := (ends_powerEnds .a (enterState .flushing s)).frame
  generalize powerEnds .b (powerEnds .a (enterState .flushing s)) = w at hb
  generalize powerEnds .a (enterState .flushing s) = v at ha hb
  rw [voidAll_frame, hb, ha]
  exact ⟨by rw [enterState_frame], by rw [enterState_frame], rfl⟩

theorem enterState_timer (d : DeviceState) (s : State) :
    (enterState d s).upkeep.timerRunning = (d == .ready && scrubMode s.strap != .strobeOnly) ∧ (enterState d s).upkeep.timer = 0 := by
  unfold enterState
  rw [raiseDevice_frame, raiseDevice_frame]
  exact ⟨rfl, rfl⟩

theorem enterFlushing_upkeep (s : State) : (enterFlushing s).device = .flushing ∧ (enterFlushing s).upkeep.timerRunning = false ∧
    (s.burst = none → (enterFlushing s).upkeep.buffer = none) := by
  obtain ⟨hd, hb, hu⟩ := flushingEnds_same s
  unfold enterFlushing
  generalize voidAll (powerEnds .b (powerEnds .a (enterState .flushing s))) = w at hd hb hu
  obtain ⟨hup, hdev, hbuf⟩ := stopUpkeep_upkeep w
  refine ⟨hdev.trans hd, ?_, fun h => hbuf (hb.trans h)⟩
  rw [hup, hu]
  exact (enterState_timer .flushing s).1

theorem exec_powerWarnAsserted (hr : s.resetAsserted = false) (hp : s.powerWarn = false) (hd : s.device = .ready) :
    exec .powerWarnAsserted s = .next (settle (enterFlushing { s with powerWarn := true })) := by
  simp only [exec, execPowerWarnAsserted, hp, hr, hd, Bool.false_eq_true, if_false]

/-- The end that the power warning makes of an order whose entry is PROVISIONAL. -/
theorem cutRender_of_order {v : State} {o : OrderCtx} {e : JournalEntry} (hm : Meets p s v) (he : s.findEntry o.sequence = some e)
    (hp : e.state = .provisional) :
    ((orderCancelled p o (voidOrder o.sequence v)).modPort p fun e => { e with inq := discardData e.inq }) =
      (voidOrder o.sequence v).cutRender p (.respond ⟨o.render.tag, .cancelled, none, [],
        [e.sequence, entryFlagsWord (voidEntry e), digitsWord 8 0, numberWord o.render.samplesPlaced]⟩ (some o.render.key) false) :=
  cut_orderCancelled (findEntry_voidOrder hm.voids he hp)

/-! ## The end of FLUSHING -/

theorem flushInFlight_iff : flushInFlight s = true ↔ ∃ b, s.burst = some b ∧ (b.work = .catalogueFlush ∨ b.work = .billingFlush) := by
  unfold flushInFlight
  split
  · next b hb => simp [hb]
  · next hb => simp [hb]

theorem portIdle_iff : portIdle p s = true ↔ (s.port p).restart = .none ∧ (s.port p).op = .idle := by
  simp [portIdle]

/-- The operation of a port waits only for a billing flush, or there is none. -/
def waitsOnly (o : Op) : Prop := o = .idle ∨ (∃ r w, o = .flushWait r w) ∨ ∃ c w, o = .order c ∧ c.stage = .finalFlush w

theorem onlyWaiting_iff : onlyWaiting p s = true ↔ (s.port p).restart = .none ∧ waitsOnly (s.port p).op := by
  unfold onlyWaiting waitsOnly
  rw [Bool.and_eq_true, beq_iff_eq]
  refine and_congr_right fun _ => ?_
  cases (s.port p).op with
  | order c =>
    obtain ⟨n, stage, c⟩ := c
    cases stage <;> simp
  | idle | store | render | lock | probe | flushWait | respond => simp

/-- The record of a port's answer has been placed, or waits for its place. -/
structure Answered (r : Response) (e f : PortEngine) : Prop where
  placed : e.outq.length < 16 → f.op = .idle ∧ ∃ l, f.outq = e.outq ++ .response r :: l
  waiting : 16 ≤ e.outq.length → ∃ k, f.op = .respond r k false

theorem Answered.later {r : Response} {e f g : PortEngine} (h : Answered r e f) (hop : g.op = f.op) (hq : ∃ l, g.outq = f.outq ++ l) :
    Answered r e g := by
  obtain ⟨l, hl⟩ := hq
  refine ⟨fun hlen => ?_, fun hlen => ?_⟩
  · obtain ⟨hidle, m, hm⟩ := h.placed hlen
    exact ⟨hop.trans hidle, m ++ l, by rw [hl, hm, List.append_assoc]; rfl⟩
  · obtain ⟨k, hk⟩ := h.waiting hlen
    exact ⟨k, hop.trans hk⟩

theorem lockBecomesHeld_frame (k : EditionKey) (s : State) : lockBecomesHeld k s =
    { s with locks := (lockBecomesHeld k s).locks, portA := (lockBecomesHeld k s).portA } := by
  unfold lockBecomesHeld
  split
  · dsimp only
    split
    · split <;> rfl
    · rfl
  · rfl

theorem lockBecomesHeld_portA (k : EditionKey) (h : ∀ tag key, s.portA.op ≠ .lock tag key) : (lockBecomesHeld k s).portA = s.portA := by
  unfold lockBecomesHeld
  split
  · dsimp only
    split
    · next tag key hl => exact absurd hl (h tag key)
    · rfl
  · rfl

/-- The end of a port's operation changes the ports and the lock table alone. -/
theorem endOp_frame (p : Port) (s : State) : endOp p s =
    { s with portA := (endOp p s).portA, portB := (endOp p s).portB, locks := (endOp p s).locks } := by
  unfold endOp
  cases p with
  | a => rfl
  | b =>
    dsimp only
    split
    · rw [lockBecomesHeld_frame]; rfl
    · rfl

theorem endOp_port_other (hq : q ≠ p) (h : ∀ tag key, (s.port q).op ≠ .lock tag key) : (endOp p s).port q = s.port q := by
  unfold endOp
  cases p with
  | a => cases q with
    | a => exact absurd rfl hq
    | b => rfl
  | b => cases q with
    | b => exact absurd rfl hq
    | a =>
      dsimp only
      split
      · exact lockBecomesHeld_portA _ h
      · rfl

theorem endWait_other (hq : q ≠ p) : (endWait p s).port q = s.port q := by
  unfold endWait orderCancelled dropSnapshot
  split
  · exact modPort_port_other _ _ hq
  · split
    · exact (modPort_port_other _ _ hq).trans (modPort_port_other _ _ hq)
    · rfl
    · rfl
  all_goals rfl

/-- What the answer of a waiting operation can change. -/
structure WaitEnds (p : Port) (s t : State) : Prop where
  frame : t = { s with portA := t.portA, portB := t.portB, locks := t.locks }
  other : ∀ q, q ≠ p → (∀ tag key, (s.port q).op ≠ .lock tag key) → t.port q = s.port q
  notLock : (∀ tag key, (s.port p).op ≠ .lock tag key) → ∀ tag key, (t.port p).op ≠ .lock tag key

theorem waitEnds_endWaitNow (p : Port) (s : State) : WaitEnds p s (endWaitNow p s) := by
  have hwait : WaitEnds p s (endWait p s) := by
    refine ⟨by rw [endWait_frame], fun q hq _ => endWait_other hq, fun h => ?_⟩
    unfold endWait
    split
    · cases p <;> exact fun _ _ => nofun
    · split
      · cases p <;> exact fun _ _ => nofun
      · exact h
      · exact h
    all_goals exact h
  unfold endWaitNow placeResponse
  dsimp only
  split
  · next r k st ho =>
    split
    · refine ⟨?_, fun q hq hl => ?_, fun _ => ?_⟩
      · rw [Option.getD_some, endOp_frame]
        have := hwait.frame
        generalize endWait p s = w at this
        rw [this]
        cases p <;> rfl
      · have hout : (pushOut p (.response r) (endWait p s)).port q = s.port q :=
          (pushOut_port_other _ _ hq).trans (hwait.other q hq hl)
        rw [Option.getD_some, endOp_port_other hq (by rw [hout]; exact hl), hout]
      · rw [Option.getD_some, endOp_port_same]
        exact fun _ _ => nofun
    · exact hwait
  · exact hwait

theorem endWaitNow_answered {r : Response} {k : Option EditionKey} (hop : ((endWait p s).port p).op = .respond r k false)
    (hq : ((endWait p s).port p).outq = (s.port p).outq) : Answered r (s.port p) ((endWaitNow p s).port p) := by
  unfold endWaitNow
  simp only [hop, placeResponse]
  refine ⟨fun hlen => ?_, fun hlen => ?_⟩
  · rw [if_pos (hasPlace_iff.mpr (by rw [hq]; exact hlen)), Option.getD_some, endOp_port_same, pushOut_port_same, hq]
    exact ⟨rfl, [], rfl⟩
  · rw [if_neg (by rw [hasPlace_iff, hq]; omega), Option.getD_none]
    exact ⟨k, hop⟩

theorem answered_of_flushWait {r : Response} {w : FlushWait} (h : (s.port p).op = .flushWait r w) :
    Answered { r with status := .cancelled } (s.port p) ((endWaitNow p s).port p) := by
  have hw : endWait p s = respond p { r with status := .cancelled } none false s := by simp only [endWait, h]
  refine endWaitNow_answered (k := none) ?_ ?_ <;> rw [hw] <;> cases p <;> rfl

theorem answered_of_order {o : OrderCtx} {w : FlushWait} {e : JournalEntry} (h : (s.port p).op = .order o)
    (hst : o.stage = .finalFlush w) (he : s.findEntry o.sequence = some e) :
    Answered ⟨o.render.tag, .cancelled, none, [], [e.sequence, entryFlagsWord e, digitsWord 8 e.net,
      numberWord (min (4 * o.render.wordsPlaced) o.render.count)]⟩ (s.port p) ((endWaitNow p s).port p) := by
  have hw : endWait p s = orderCancelled p o s := by simp only [endWait, h, hst]
  rw [orderCancelled, orderResponse_cancelled he] at hw
  refine endWaitNow_answered (k := some o.render.key) ?_ ?_ <;> rw [hw] <;> cases p <;> rfl

theorem enterState_outq (d : DeviceState) (p : Port) (s : State) : ∃ l, ((enterState d s).port p).outq = (s.port p).outq ++ l := by
  have hraise (q : Port) (v : State) : ∃ l, ((raiseDevice q v).port p).outq = (v.port p).outq ++ l := by
    unfold raiseDevice
    split <;> cases p <;> cases q
    all_goals first | exact ⟨[_], rfl⟩ | exact ⟨[], (List.append_nil _).symm⟩
  unfold enterState
  dsimp only
  obtain ⟨l, hl⟩ := hraise .a { s with
    device := d, upkeep := { s.upkeep with timerRunning := d == .ready && scrubMode s.strap != .strobeOnly, timer := 0 } }
  obtain ⟨m, hm⟩ := hraise .b (raiseDevice .a { s with
    device := d, upkeep := { s.upkeep with timerRunning := d == .ready && scrubMode s.strap != .strobeOnly, timer := 0 } })
  refine ⟨l ++ m, ?_⟩
  rw [hm, hl, List.append_assoc]
  cases p <;> rfl

/-- A DEVICE_STATE notice is placed where the port has a place and no mark. -/
theorem enterState_notice (d : DeviceState) (p : Port) (s : State) (hlen : (s.port p).outq.length < 16)
    (hmark : (s.port p).deviceMark = false) :
    ((enterState d s).port p).outq = (s.port p).outq ++ [.notice (.deviceState d false)] := by
  have hraise (v : State) (hv : (v.port p).hasPlace = true) (hm : (v.port p).deviceMark = false) :
      raiseDevice p v = pushOut p (.notice (.deviceState v.device false)) v := by rw [raiseDevice, hv, hm]; rfl
  have hother (q : Port) (v : State) (h : p ≠ q) : (raiseDevice q v).port p = v.port p ∧ (raiseDevice q v).device = v.device := by
    refine ⟨?_, by rw [raiseDevice_frame]⟩
    unfold raiseDevice
    split
    · exact pushOut_port_other _ _ h
    · exact modPort_port_other _ _ h
  unfold enterState
  dsimp only
  generalize hv : ({ s with
    device := d, upkeep := { s.upkeep with timerRunning := d == .ready && scrubMode s.strap != .strobeOnly, timer := 0 } } : State) = v
  have hport : v.port p = s.port p := by rw [← hv]; cases p <;> rfl
  have hdev : v.device = d := by rw [← hv]
  cases p with
  | a =>
    rw [(hother .b _ (by decide)).1, hraise v (by rw [hport]; exact hasPlace_iff.mpr hlen) (by rw [hport]; exact hmark),
      pushOut_port_same, hport, hdev]
  | b =>
    obtain ⟨hp, hd⟩ := hother .a v (by decide)
    rw [hraise _ (by rw [hp, hport]; exact hasPlace_iff.mpr hlen) (by rw [hp, hport]; exact hmark), pushOut_port_same, hp, hport, hd,
      hdev]

theorem not_lock_of_waitsOnly {o : Op} (h : waitsOnly o) : ∀ tag key, o ≠ .lock tag key := by
  rintro tag key rfl
  rcases h with h | ⟨_, _, h⟩ | ⟨_, _, h, _⟩ <;> cases h

/-- Both ports' answers, at the end of FLUSHING with bank 0 OFFLINE. -/
theorem leaveFlushing_answers (hw : ∀ p, waitsOnly (s.port p).op) (p : Port) :
    ∃ v, v.port p = s.port p ∧ v.journal = s.journal ∧ ∀ r, Answered r (s.port p) ((endWaitNow p v).port p) →
      Answered r (s.port p) ((leaveFlushing (endWaitNow .b (endWaitNow .a s))).port p) := by
  have hlock (q : Port) : ∀ tag key, (s.port q).op ≠ .lock tag key := not_lock_of_waitsOnly (hw q)
  have ha := waitEnds_endWaitNow .a s
  have hb := waitEnds_endWaitNow .b (endWaitNow .a s)
  have hstays := hb.other .a (by decide) (ha.notLock (hlock .a))
  have hlater (r : Response) (h : Answered r (s.port p) ((endWaitNow .b (endWaitNow .a s)).port p)) :
      Answered r (s.port p) ((leaveFlushing (endWaitNow .b (endWaitNow .a s))).port p) :=
    h.later (enterState_samePort _ p _).op (enterState_outq _ p _)
  cases p with
  | a => exact ⟨s, rfl, rfl, fun r h => hlater r (by rw [hstays]; exact h)⟩
  | b => exact ⟨endWaitNow .a s, ha.other .b (by decide) (hlock .b), by rw [ha.frame], fun r h => hlater r h⟩

/-- The end of FLUSHING (R23, R24), with no flush burst in flight. -/
theorem flushComplete_eq (hd : s.device = .flushing)
    (hb : ∀ b, s.burst = some b → b.work ≠ .catalogueFlush ∧ b.work ≠ .billingFlush) : flushComplete s =
      if bankOffline s 0 then
        if onlyWaiting .a s && onlyWaiting .b s then some (leaveFlushing (endWaitNow .b (endWaitNow .a s))) else none
      else if !s.billingPending && s.dirty.isEmpty && portIdle .a s && portIdle .b s then some (leaveFlushing s)
      else none := by
  have hno : ¬ flushInFlight s = true := fun h => by
    obtain ⟨b, hbb, hbw⟩ := flushInFlight_iff.mp h
    obtain ⟨h1, h2⟩ := hb b hbb
    exact hbw.elim h1 h2
  rw [flushComplete, if_neg (not_or.mpr ⟨not_not_intro hd, hno⟩)]

theorem bothPorts_iff {f : Port → Bool} : (f .a && f .b) = true ↔ ∀ p, f p = true := by
  rw [Bool.and_eq_true]
  refine ⟨fun ⟨ha, hb⟩ p => ?_, fun h => ⟨h .a, h .b⟩⟩
  cases p
  · exact ha
  · exact hb

/-- What the end of FLUSHING does while bank 0 is OFFLINE. -/
theorem leaveFlushing_offline (hw : ∀ p, waitsOnly (s.port p).op) :
    let t := leaveFlushing (endWaitNow .b (endWaitNow .a s))
    t.device = (if s.powerWarn then .halted else .ready) ∧ t.billingPending = s.billingPending ∧ t.dirty = s.dirty ∧
      t.journal = s.journal ∧ t.accounts = s.accounts ∧ t.medium = s.medium ∧ t.banks = s.banks ∧
      ∀ p : Port, (∀ r w, (s.port p).op = .flushWait r w → Answered { r with status := .cancelled } (s.port p) (t.port p)) ∧
        ∀ o w e, (s.port p).op = .order o → o.stage = .finalFlush w → s.findEntry o.sequence = some e →
          Answered ⟨o.render.tag, .cancelled, none, [], [e.sequence, entryFlagsWord e, digitsWord 8 e.net,
            numberWord (min (4 * o.render.wordsPlaced) o.render.count)]⟩ (s.port p) (t.port p) := by
  have ha := (waitEnds_endWaitNow .a s).frame
  have hb := (waitEnds_endWaitNow .b (endWaitNow .a s)).frame
  have hanswers := leaveFlushing_answers hw
  have hdevice := (enterState_device (if (endWaitNow .b (endWaitNow .a s)).powerWarn then .halted else .ready)
    (endWaitNow .b (endWaitNow .a s))).1
  have hframe := enterState_frame (if (endWaitNow .b (endWaitNow .a s)).powerWarn then .halted else .ready)
    (endWaitNow .b (endWaitNow .a s))
  intro t
  change t.device = _ at hdevice
  change t = _ at hframe
  have hrest : ∀ p, (∀ r w, (s.port p).op = .flushWait r w → Answered { r with status := .cancelled } (s.port p) (t.port p)) ∧
      ∀ o w e, (s.port p).op = .order o → o.stage = .finalFlush w → s.findEntry o.sequence = some e →
        Answered ⟨o.render.tag, .cancelled, none, [], [e.sequence, entryFlagsWord e, digitsWord 8 e.net,
          numberWord (min (4 * o.render.wordsPlaced) o.render.count)]⟩ (s.port p) (t.port p) := by
    intro p
    obtain ⟨v, hv, hj, hlater⟩ := hanswers p
    refine ⟨fun r w ho => hlater _ ?_, fun o w e ho hst he => hlater _ ?_⟩
    · rw [← hv]
      exact answered_of_flushWait (by rw [hv]; exact ho)
    · rw [← hv]
      exact answered_of_order (by rw [hv]; exact ho) hst (by rw [State.findEntry, hj]; exact he)
  generalize t = t' at hdevice hframe hrest ⊢
  generalize endWaitNow .b (endWaitNow .a s) = w at hb hdevice hframe
  generalize endWaitNow .a s = v at ha hb
  refine ⟨by rw [hdevice, hb, ha], ?_, ?_, ?_, ?_, ?_, ?_, hrest⟩ <;> rw [hframe, hb, ha]

theorem Answered.split {r : Response} {e f : PortEngine} (h : Answered r e f) :
    if e.outq.length < 16 then f.op = .idle ∧ f.outq[e.outq.length]? = some (.response r) else ∃ k, f.op = .respond r k false := by
  split
  · next hlen =>
    obtain ⟨hop, l, hl⟩ := h.placed hlen
    exact ⟨hop, by rw [hl]; simp⟩
  · next hlen => exact h.waiting (Nat.not_lt.mp hlen)

/-- Settles O60: what POWER_WARN meets on a port (`enterFlushing_meets`) ends by the rows of `cancelOp`, and FLUSHING ends
by `flushComplete_eq`. -/
theorem powerWarning : Obligations.PowerWarning := by
  refine ⟨fun s hr => ⟨fun hpw hd => ?_, fun hpw hd => ?_, fun hpw hd => ?_, fun hpw hd => ?_⟩, fun s hd => ?_⟩
  · refine ⟨_, exec_powerWarnAsserted hr hpw hd, ?_⟩
    have hw := (warnOnly_enterFlushing { s with powerWarn := true }).frame
    obtain ⟨hdev, htimer, hbuffer⟩ := enterFlushing_upkeep { s with powerWarn := true }
    obtain ⟨hjournal, hbilling⟩ := enterFlushing_journal { s with powerWarn := true }
    have hmeets := fun p => enterFlushing_meets p { s with powerWarn := true }
    generalize enterFlushing { s with powerWarn := true } = t at hw hdev htimer hbuffer hjournal hbilling hmeets
    refine ⟨hdev, ?_, htimer, ?_, ?_, ?_, ?_, ?_, hbilling, ?_, hbuffer, fun p => ?_⟩
    · rw [hw]
    · rw [hw]
    · rw [hw]
    · rw [hw]
    · rw [hjournal, List.length_map]
    · intro e he
      rw [hjournal] at he
      obtain ⟨f, -, rfl⟩ := List.mem_map.mp he
      unfold voided
      split
      · simp [voidEntry]
      · assumption
    · intro i e he
      rw [hjournal, List.getElem?_map, show ({ s with powerWarn := true } : State).journal[i]? = some e from he]
      rfl
    · obtain ⟨v, hm, hport, hlock⟩ := hmeets p
      have hself : ({ s with powerWarn := true } : State).port p = s.port p := by cases p <;> rfl
      rw [hport]
      replace hm : Meets p s v := ⟨hself ▸ hm.port, hm.burst, hm.voids.journal, hm.voids.pending, hm.voids.owed⟩
      have hop := hm.port.op
      intro kept becomes
      refine ⟨fun hrs => ?_, fun hrs => ?_⟩
      · exact kept_of_same hm (powerEnds_of_restart (by rw [hm.port.restart]; exact hrs))
      have hends : powerEnds p v = cancelOp p v := powerEnds_of_none (by rw [hm.port.restart]; exact hrs)
      have hb : portInBurst p v = portInBurst p s := portInBurst_congr hm.burst
      have hset : snapshotSet v p = snapshotSet s p := snapshotSet_congr hm.port.snapshot
      refine ⟨fun ho => ?_, fun r k st ho => ?_, fun r w ho => ?_, fun tag bank ho => ?_, fun tag bank ho => ?_, fun tag key ho => ?_,
        fun c ho hc => ?_, fun c ho hc => ?_, fun c ho hc => ⟨fun hnb => ?_, fun hib => ?_⟩, fun o w ho hw => ?_,
        fun o e ho he hp => ?_⟩
      · exact kept_of_same hm (by simp only [hends, cancelOp, hop.trans ho])
      · exact kept_of_same hm (by simp only [hends, cancelOp, hop.trans ho])
      · exact kept_of_same hm (by simp only [hends, cancelOp, hop.trans ho])
      · exact kept_of_same hm (by simp only [hends, cancelOp, hop.trans ho])
      · exact becomes_of_cutOp hm (by simp only [hends, cancelOp, hop.trans ho]; exact cutOp_eq _) rfl
      · refine ⟨becomes_of_cutOp hm (w := removeLock key v) (by simp only [hends, cancelOp, hop.trans ho]; exact cutOp_eq _)
          (by cases p <;> rfl), hlock key ?_⟩
        simp only [hends, cancelOp, hop.trans ho]
        exact (lockOf_congr (by simp)).trans (lockOf_removeLock_same key v)
      · exact kept_of_same hm (by simp only [hends, cancelOp, hop.trans ho, if_neg (mt Option.isNone_iff_eq_none.mp hc)])
      · exact becomes_of_cutOp hm (by
          simp only [hends, cancelOp, hop.trans ho, hc, Option.isNone_none, if_true]; exact cutOp_eq _) rfl
      · have hcut : powerEnds p v = v.cutRender p
            (.respond (c.response .cancelled (min (4 * c.wordsPlaced) c.count) (snapshotSet s p)) (some c.key) false) := by
          simp only [hends, cancelOp, hop.trans ho, hc, hb, hnb, Bool.false_eq_true, if_false]
          exact (cut_renderCancelled c).trans (by rw [hset]; rfl)
        exact ⟨by rw [hcut, cutRender_port], becomes_of_cutRender hm hcut rfl⟩
      · exact becomes_of_cutOp hm (by
          simp only [hends, cancelOp, hop.trans ho, hc, hb, hib, Bool.false_eq_true, if_false, if_true]; exact cutOp_eq _) rfl
      · exact kept_of_same hm (by simp only [hends, cancelOp, hop.trans ho, hw])
      · intro void ended
        refine ⟨fun w hw => ?_, fun hw hc => ⟨fun hnb => ?_, fun hib => ?_⟩⟩
        · exact becomes_of_cutRender hm (w := voidOrder o.sequence v) (by
            simp only [hends, cancelOp, hop.trans ho, hw]; exact cutRender_of_order hm he hp) (voidOrder_port ..)
        · exact becomes_of_cutRender hm (w := voidOrder o.sequence v) (by
            simp only [hends, cancelOp, hop.trans ho, hw, hc, hb, hnb, Bool.false_eq_true, if_false]
            exact cutRender_of_order hm he hp) (voidOrder_port ..)
        · exact becomes_of_cutOp hm (w := voidOrder o.sequence v) (by
            simp only [hends, cancelOp, hop.trans ho, hw, hc, hb, hib, Bool.false_eq_true, if_false, if_true]
            exact cutOp_eq _) (voidOrder_port ..)
  · simp only [exec, execPowerWarnAsserted, hpw, hr, Bool.false_eq_true, if_false]
    cases hdev : s.device with
    | ready => exact absurd hdev hd
    | preparing | flushing | halted | faulted => rfl
  · refine ⟨enterState .ready { s with powerWarn := false }, ?_, ?_⟩
    · simp only [exec, execPowerWarnReleased, hpw, hr, hd, Bool.not_true, Bool.false_eq_true, if_false]
    · obtain ⟨htr, htimer⟩ := enterState_timer .ready { s with powerWarn := false }
      refine ⟨(enterState_device _ _).1, by rw [enterState_frame], htr, htimer, ?_⟩
      rw [enterState_frame]
      exact ⟨rfl, rfl, rfl, rfl, rfl⟩
  · simp only [exec, execPowerWarnReleased, hpw, hr, Bool.not_true, Bool.false_eq_true, if_false]
    cases hdev : s.device with
    | halted => exact absurd hdev hd
    | preparing | flushing | ready | faulted => rfl
  · intro follows idle waits
    refine ⟨fun hb => ?_, fun hb => ⟨fun hoff => ⟨fun h => ?_, fun hp hdirty hidle => ?_⟩, fun hoff => ⟨fun h => ?_, fun hw => ?_⟩⟩⟩
    · rw [flushComplete, if_pos (.inr (flushInFlight_iff.mpr hb))]
    · rw [flushComplete_eq hd hb, if_neg (by rw [hoff]; decide), if_neg]
      rw [Bool.and_assoc, Bool.and_eq_true, Bool.and_eq_true, bothPorts_iff (f := fun p => portIdle p s)]
      rintro ⟨⟨hbp, hdy⟩, hi⟩
      rcases h with h | h | ⟨p, h⟩
      · rw [h] at hbp; cases hbp
      · exact h (List.isEmpty_iff.mp hdy)
      · exact h (portIdle_iff.mp (hi p))
    · have hdone : flushComplete s = some (leaveFlushing s) := by
        rw [flushComplete_eq hd hb, if_neg (by rw [hoff]; decide), if_pos]
        rw [Bool.and_assoc, Bool.and_eq_true, Bool.and_eq_true, bothPorts_iff (f := fun p => portIdle p s)]
        exact ⟨⟨by rw [hp]; rfl, List.isEmpty_iff.mpr hdirty⟩, fun p => portIdle_iff.mpr (hidle p)⟩
      refine ⟨_, hdone, ?_, fun p => ⟨?_, fun hlen hmark => enterState_notice _ p s hlen hmark⟩⟩
      · exact (enterState_frame _ s)
      · exact (enterState_samePort _ p s).op.trans (hidle p).2
    · rw [flushComplete_eq hd hb, if_pos hoff, if_neg]
      rw [bothPorts_iff (f := fun p => onlyWaiting p s)]
      intro hall
      obtain ⟨p, hp⟩ := h
      exact hp (onlyWaiting_iff.mp (hall p))
    · have hdone : flushComplete s = some (leaveFlushing (endWaitNow .b (endWaitNow .a s))) := by
        rw [flushComplete_eq hd hb, if_pos hoff, if_pos]
        rw [bothPorts_iff (f := fun p => onlyWaiting p s)]
        exact fun p => onlyWaiting_iff.mpr (hw p)
      obtain ⟨h1, h2, h3, h4, h5, h6, h7, hanswers⟩ := leaveFlushing_offline fun p => (hw p).2
      refine ⟨_, hdone, h1, h2, h3, h4, h5, h6, h7, fun p => ?_⟩
      obtain ⟨hwait, horder⟩ := hanswers p
      exact ⟨fun r w ho => (hwait r w ho).split, fun o w e ho hst he => (horder o w e ho hst he).split⟩

end Sys2Proof.Machine
end

section
/-!
PROOF. WITHDRAW_EDITION: the slots released one by one, what the upkeep engine held of them, and the damage list: O15.
-/

namespace Sys2Proof.Machine

open Sys2Proof

variable {s t : State} {b : Burst} {n m : Nat} {ns : List Nat}

/-! ## One slot released -/

theorem leaveRelocations_relocations (n : Nat) (s : State) :
    (leaveRelocations n s).relocations = s.relocations.filter (· != n) := by
  unfold leaveRelocations
  split
  · rfl
  · next h => exact (List.filter_eq_self.mpr fun m hm => bne_iff_ne.mpr (ne_of_mem_of_not_mem hm h)).symm

theorem leaveRelocations_slot_other (s : State) (h : m ≠ n) : (leaveRelocations n s).slot m = s.slot m := by
  unfold leaveRelocations
  split
  · exact slot_setSlot_other s _ h
  · rfl

theorem wf_leaveRelocations (n : Nat) (h : Assoc.wf slotDefault s.slots = true) :
    Assoc.wf slotDefault (leaveRelocations n s).slots = true := by
  unfold leaveRelocations
  split
  · exact wf_setSlot s _ _ h
  · exact h

/-- Leaving the relocation list changes of the slot itself its mark alone. -/
theorem leaveRelocations_slot_same (n : Nat) (h : Assoc.wf slotDefault s.slots = true) :
    ∃ pending, (leaveRelocations n s).slot n = { s.slot n with relocationPending := pending } := by
  unfold leaveRelocations
  split
  · exact ⟨_, slot_setSlot_same s _ _ h⟩
  · exact ⟨_, rfl⟩

/-- What a release makes of a slot's entry: RETIRED where it carries the damage mark, FREE where not (R10, R12). -/
def releasedEntry (e : SlotEntry) : SlotEntry :=
  if e.damage then { e with state := .retired, owner := .none, relocationPending := false }
  else { e with state := .free, owner := .none, written := false, count := 0, relocationPending := false }

/-- A release marks the group of a slot that is retired, or whose correction count it clears (R14). -/
def releaseMarks (e : SlotEntry) : Prop := e.damage = true ∨ e.count ≠ 0

theorem releaseSlot_frame (n : Nat) (s : State) :
    releaseSlot n s = { s with slots := (releaseSlot n s).slots, pool := (releaseSlot n s).pool
                               relocations := s.relocations.filter (· != n), dirty := (releaseSlot n s).dirty } := by
  rw [← leaveRelocations_relocations]
  unfold releaseSlot
  dsimp only
  split
  · rw [retireSlot_frame, leaveRelocations_frame]
  · split <;> rw [leaveRelocations_frame] <;> rfl

theorem releaseSlot_slot_other (s : State) (h : m ≠ n) : (releaseSlot n s).slot m = s.slot m := by
  refine .trans ?_ (leaveRelocations_slot_other s h)
  unfold releaseSlot
  dsimp only
  split
  · exact slot_setSlot_other _ _ h
  · split <;> exact slot_setSlot_other _ _ h

theorem wf_releaseSlot (n : Nat) (h : Assoc.wf slotDefault s.slots = true) : Assoc.wf slotDefault (releaseSlot n s).slots = true := by
  have hleft := wf_leaveRelocations n h
  unfold releaseSlot
  dsimp only
  split
  · exact wf_setSlot _ _ _ hleft
  · split <;> exact wf_setSlot _ _ _ hleft

/-- A release by the slot's own entry: it is retired, or is FREE at the pool's tail. -/
theorem releaseSlot_eq (n : Nat) (h : Assoc.wf slotDefault s.slots = true) :
    let u := leaveRelocations n s
    releaseSlot n s = (if (s.slot n).damage then retireSlot n u
      else if (s.slot n).count = 0 then { u.setSlot n (releasedEntry (s.slot n)) with pool := s.pool ++ [n] }
      else markDirty (markGroup n) { u.setSlot n (releasedEntry (s.slot n)) with pool := s.pool ++ [n] }) := by
  obtain ⟨pending, hu⟩ := leaveRelocations_slot_same n h
  have hpool : (leaveRelocations n s).pool = s.pool := by rw [leaveRelocations_frame]
  unfold releaseSlot
  dsimp only
  rw [hu, hpool]
  cases hd : (s.slot n).damage
  · simp only [releasedEntry, hd, Bool.false_eq_true, if_false]
  · rfl

theorem releaseSlot_slot (n : Nat) (h : Assoc.wf slotDefault s.slots = true) :
    (releaseSlot n s).slot n = releasedEntry (s.slot n) := by
  obtain ⟨pending, hu⟩ := leaveRelocations_slot_same n h
  have hset := slot_setSlot_same (leaveRelocations n s) n (releasedEntry (s.slot n)) (wf_leaveRelocations n h)
  rw [releaseSlot_eq n h]
  split
  · next hd => rw [retireSlot_slot, hu, releasedEntry, if_pos hd]
  · split <;> exact hset

theorem releaseSlot_dirty (h : Assoc.wf slotDefault s.slots = true) {g : Nat} :
    g ∈ (releaseSlot n s).dirty ↔ g ∈ s.dirty ∨ releaseMarks (s.slot n) ∧ g = markGroup n := by
  have hdirty : (leaveRelocations n s).dirty = s.dirty := by rw [leaveRelocations_frame]
  rw [releaseSlot_eq n h, releaseMarks]
  split
  · next hd => exact mem_dirty_mark.trans (by rw [and_iff_right (.inl hd)]; exact or_congr_left (iff_of_eq (by rw [← hdirty]; rfl)))
  · next hd =>
    split
    · next hc => exact (iff_of_eq (by rw [← hdirty]; rfl)).trans (or_iff_left fun hm => hm.1.elim hd (· hc)).symm
    · next hc => exact mem_dirty_mark.trans (by rw [and_iff_right (.inr hc)]; exact or_congr_left (iff_of_eq (by rw [← hdirty]; rfl)))

theorem releaseSlot_pool (h : Assoc.wf slotDefault s.slots = true) (hn : n ∉ s.pool) :
    (releaseSlot n s).pool = s.pool ++ [n].filter (fun n => !(s.slot n).damage) := by
  have hpool : (leaveRelocations n s).pool = s.pool := by rw [leaveRelocations_frame]
  rw [releaseSlot_eq n h]
  split
  · next hd =>
    rw [retireSlot_frame]
    simp only [hpool, List.filter_cons, hd, Bool.not_true, Bool.false_eq_true, if_false, List.filter_nil, List.append_nil]
    exact List.filter_eq_self.mpr fun m hm => bne_iff_ne.mpr (ne_of_mem_of_not_mem hm hn)
  · next hd => split <;> simp [hd]

/-! ## All slots of an edition released -/

/-- The slots of a list released in its order (R36). -/
def releaseSlots (ns : List Nat) (s : State) : State := ns.foldl (fun s n => releaseSlot n s) s

theorem releaseSlots_cons (n : Nat) (ns : List Nat) (s : State) : releaseSlots (n :: ns) s = releaseSlots ns (releaseSlot n s) := rfl

theorem releaseSlots_frame (ns : List Nat) (s : State) :
    releaseSlots ns s = { s with slots := (releaseSlots ns s).slots, pool := (releaseSlots ns s).pool
                                 relocations := s.relocations.filter (fun n => !ns.contains n)
                                 dirty := (releaseSlots ns s).dirty } := by
  induction ns generalizing s with
  | nil => simp [releaseSlots]
  | cons n ns ih =>
    have hfilter : (s.relocations.filter (· != n)).filter (fun m => !ns.contains m) =
        s.relocations.filter fun m => !(n :: ns).contains m := by
      rw [List.filter_filter]
      exact List.filter_congr fun m _ => by by_cases h : m = n <;> simp [h]
    rw [releaseSlots_cons, ih, releaseSlot_frame, ← hfilter]

theorem releaseSlots_slot_other (h : m ∉ ns) (s : State) : (releaseSlots ns s).slot m = s.slot m := by
  induction ns generalizing s with
  | nil => rfl
  | cons n ns ih =>
    rw [List.mem_cons, not_or] at h
    rw [releaseSlots_cons, ih h.2, releaseSlot_slot_other s h.1]

theorem releaseSlots_slot (hd : ns.Nodup) (h : Assoc.wf slotDefault s.slots = true) (hm : m ∈ ns) :
    (releaseSlots ns s).slot m = releasedEntry (s.slot m) := by
  induction ns generalizing s with
  | nil => cases hm
  | cons n ns ih =>
    obtain ⟨hn, hns⟩ := List.nodup_cons.mp hd
    rw [releaseSlots_cons]
    rcases List.mem_cons.mp hm with rfl | hm
    · rw [releaseSlots_slot_other hn, releaseSlot_slot m h]
    · rw [ih hns (wf_releaseSlot n h) hm, releaseSlot_slot_other s (ne_of_mem_of_not_mem hm hn)]

theorem releaseSlots_dirty (hd : ns.Nodup) (h : Assoc.wf slotDefault s.slots = true) {g : Nat} :
    g ∈ (releaseSlots ns s).dirty ↔ g ∈ s.dirty ∨ ∃ n ∈ ns, releaseMarks (s.slot n) ∧ g = markGroup n := by
  induction ns generalizing s with
  | nil => simp [releaseSlots]
  | cons n ns ih =>
    obtain ⟨hn, hns⟩ := List.nodup_cons.mp hd
    have hrest : (∃ m ∈ ns, releaseMarks ((releaseSlot n s).slot m) ∧ g = markGroup m) ↔
        ∃ m ∈ ns, releaseMarks (s.slot m) ∧ g = markGroup m :=
      exists_congr fun m => and_congr_right fun hm => by rw [releaseSlot_slot_other s (ne_of_mem_of_not_mem hm hn)]
    rw [releaseSlots_cons, ih hns (wf_releaseSlot n h), releaseSlot_dirty h, hrest, or_assoc]
    exact or_congr_right (List.exists_mem_cons_iff (fun m => releaseMarks (s.slot m) ∧ g = markGroup m) n ns).symm

theorem releaseSlots_pool (hd : ns.Nodup) (h : Assoc.wf slotDefault s.slots = true) (hp : ∀ n ∈ ns, n ∉ s.pool) :
    (releaseSlots ns s).pool = s.pool ++ ns.filter (fun n => !(s.slot n).damage) := by
  induction ns generalizing s with
  | nil => simp [releaseSlots]
  | cons n ns ih =>
    obtain ⟨hn, hns⟩ := List.nodup_cons.mp hd
    have hpool := releaseSlot_pool h (hp n List.mem_cons_self)
    have hout : ∀ m ∈ ns, m ∉ (releaseSlot n s).pool := by
      intro m hm hmem
      rw [hpool, List.mem_append, List.mem_filter, List.mem_singleton] at hmem
      rcases hmem with hmem | ⟨rfl, -⟩
      · exact hp m (List.mem_cons_of_mem _ hm) hmem
      · exact hn hm
    have hsame : ns.filter (fun m => !((releaseSlot n s).slot m).damage) = ns.filter fun m => !(s.slot m).damage :=
      List.filter_congr fun m hm => by rw [releaseSlot_slot_other s (ne_of_mem_of_not_mem hm hn)]
    rw [releaseSlots_cons, ih hns (wf_releaseSlot n h) hout, hpool, hsame, List.append_assoc, ← List.filter_append]
    rfl

/-! ## What the upkeep engine held of the released slots (R37) -/

/-- A burst in flight for a slot that is released takes no outcome. -/
def outcomeDropped (ns : List Nat) (b : Burst) : Burst :=
  { b with work := match b.work with
    | .writeback kept dropped => .writeback kept (dropped || ns.contains b.slot)
    | .relocationRead target g dropped noCopy => .relocationRead target g (dropped || ns.contains b.slot) noCopy
    | .relocationWrite old dropped => .relocationWrite old (dropped || ns.contains old)
    | other => other }

/-- A write of the upkeep engine is in flight, whose copy is being written. -/
def copyInWriting (s : State) : Bool :=
  match s.burst with
  | some b => match b.work with
    | .writeback _ _ => true
    | .relocationWrite _ _ => true
    | _ => false
  | none => false

/-- The copy in the upkeep tile buffer, where its slot is released and it is not being written, is dropped. -/
def copyReleased (ns : List Nat) (s : State) : State :=
  match s.upkeep.buffer with
  | some c => if c.slot ∈ ns ∧ copyInWriting s = false then dropCopy s else s
  | none => s

/-- The copy is dropped only for its slot; with no burst in flight, and its slot released, it is dropped. -/
theorem copyReleased_cases (ns : List Nat) (s : State) :
    (copyReleased ns s = s ∧ ∀ c, s.upkeep.buffer = some c → c.slot ∈ ns → s.burst ≠ none) ∨
      (copyReleased ns s = dropCopy s ∧ ∃ c, s.upkeep.buffer = some c ∧ c.slot ∈ ns) := by
  unfold copyReleased
  split
  · next c hc =>
    split
    · next h => exact .inr ⟨rfl, c, hc, h.1⟩
    · next h =>
      refine .inl ⟨rfl, fun c' hc' hmem hb => h ⟨?_, by rw [copyInWriting, hb]⟩⟩
      obtain rfl : c = c' := Option.some.inj (hc.symm.trans hc')
      exact hmem
  · next hc => exact .inl ⟨rfl, fun c h => by rw [hc] at h; cases h⟩

theorem copyReleased_burst (ns : List Nat) (s : State) : (copyReleased ns s).burst = s.burst := by
  rcases copyReleased_cases ns s with ⟨h, -⟩ | ⟨h, -⟩ <;> rw [h]
  rw [dropCopy_frame]

theorem dropReleased_eq (ns : List Nat) (s : State) :
    dropReleased ns s = { copyReleased ns s with burst := s.burst.map (outcomeDropped ns) } := by
  have hburst := copyReleased_burst ns s
  change (match (copyReleased ns s).burst with
    | none => copyReleased ns s
    | some b => match b.work with
      | .writeback kept dropped =>
        { copyReleased ns s with burst := some { b with work := .writeback kept (dropped || b.slot ∈ ns) } }
      | .relocationRead t g dropped noCopy =>
        { copyReleased ns s with burst := some { b with work := .relocationRead t g (dropped || b.slot ∈ ns) noCopy } }
      | .relocationWrite old dropped =>
        { copyReleased ns s with burst := some { b with work := .relocationWrite old (dropped || old ∈ ns) } }
      | _ => copyReleased ns s) = _
  revert hburst
  generalize copyReleased ns s = u
  intro hburst
  rw [← hburst]
  have hself (b : Option Burst) (h : u.burst = b) : u = { u with burst := b } := by rw [← h]
  rcases hb : u.burst with _ | ⟨work, slot, retried, timer, image⟩
  · exact hself _ hb
  · cases work <;> simp only [outcomeDropped, Option.map_some, List.contains_eq_mem] <;> exact hself _ hb

/-- A copy that is dropped changes at most the slot it was to be written to. -/
theorem dropCopy_slot_other (h : ∀ c, s.upkeep.buffer = some c → c.purpose ≠ .relocation n) : (dropCopy s).slot n = s.slot n := by
  unfold dropCopy
  split
  · rfl
  · next c hc =>
    dsimp only
    split
    · rfl
    · next target ht => exact slot_setSlot_other s _ fun hn => h c hc (hn ▸ ht)

/-- The target of a copy that is dropped is in the pool. -/
theorem mem_dropCopy_pool {c : Copy} {target : Nat} (hc : s.upkeep.buffer = some c) (ht : c.purpose = .relocation target) :
    target ∈ (dropCopy s).pool := by
  simp only [dropCopy, hc, ht, returnTarget]
  simp

theorem dropCopy_of_none (h : s.upkeep.buffer = none) : dropCopy s = s := by rw [dropCopy, h]

/-! ## The damage list refilled -/

/-- A record without its withheld mark. -/
def unheld (o : ObjectRec) : ObjectRec := { o with withheld := false }

/-- A refill keeps the records of the objects but for their withheld marks, and lists objects only. -/
theorem refillFrom_objects (os : List ObjectRec) (s : State) (m : Nat) :
    ((refillFrom os s).findObject m).map unheld = (s.findObject m).map unheld ∧
      ∀ d ∈ (refillFrom os s).damage, d ∈ s.damage ∨ ∃ o ∈ os, d.object = o.number := by
  induction os generalizing s with
  | nil => exact ⟨rfl, fun d hd => .inl hd⟩
  | cons o rest ih =>
    rw [refillFrom]
    split
    · obtain ⟨hobj, hdam⟩ := ih { s.modObject o.number (fun o => { o with withheld := false }) with
        damage := s.damage ++ [damageEntry s o] }
      refine ⟨hobj.trans ?_, fun d hd => ?_⟩
      · refine (congrArg (Option.map unheld) (find?_map_number (fun o' => by dsimp only; split <;> rfl) s.objects m)).trans ?_
        rw [Option.map_map]
        refine congrArg (Option.map · (s.findObject m)) (funext fun o' => ?_)
        dsimp only [Function.comp]
        split <;> rfl
      · rcases hdam d hd with hd | ⟨q, hq, hdq⟩
        · rcases List.mem_append.mp hd with hd | hd
          · exact .inl hd
          · rw [List.mem_singleton.mp hd]
            exact .inr ⟨o, List.mem_cons_self, rfl⟩
        · exact .inr ⟨q, List.mem_cons_of_mem _ hq, hdq⟩
    · obtain ⟨hobj, hdam⟩ := ih s
      exact ⟨hobj, fun d hd => (hdam d hd).imp_right fun ⟨q, hq, hdq⟩ => ⟨q, List.mem_cons_of_mem _ hq, hdq⟩⟩

theorem refillDamage_objects (s : State) (m : Nat) :
    ((refillDamage s).findObject m).map unheld = (s.findObject m).map unheld ∧
      ∀ d ∈ (refillDamage s).damage, d ∈ s.damage ∨ ∃ o ∈ s.objects, d.object = o.number := by
  have h := refillFrom_objects s.objects s m
  unfold refillDamage
  dsimp only
  split <;> exact h

/-! ## The edition and its objects removed -/

/-- The groups of a list marked dirty. -/
def marked (gs dirty : List Nat) : List Nat := gs.foldl (fun d g => Assoc.addNat g d) dirty

theorem markAll_eq (ns : List Nat) (group : Nat → Nat) (s : State) :
    ns.foldl (fun s n => markDirty (group n) s) s = { s with dirty := marked (ns.map group) s.dirty } := by
  induction ns generalizing s with
  | nil => rfl
  | cons n ns ih => rw [List.foldl_cons, ih]; rfl

theorem mem_marked {gs dirty : List Nat} {g : Nat} : g ∈ marked gs dirty ↔ g ∈ dirty ∨ g ∈ gs := by
  induction gs generalizing dirty with
  | nil => simp [marked]
  | cons h gs ih =>
    change g ∈ marked gs (Assoc.addNat h dirty) ↔ _
    rw [ih, Assoc.mem_addNat, List.mem_cons, or_comm (a := g = h), or_assoc]

/-- An edition's record, its objects, its lock and its entries in the damage list removed, and its groups dirty. -/
def unshelve (e : EditionRec) (s : State) : State :=
  let numbers := e.objects.map (·.number)
  { s with
    editions := s.editions.filter fun r => r.key != e.key
    objects := s.objects.filter fun o => !numbers.contains o.number
    dirty := Assoc.addNat (editionGroup e.position) (marked (numbers.map objectGroup) s.dirty)
    locks := (removeLock e.key s).locks
    damage := s.damage.filter fun d => !numbers.contains d.object }

theorem withdrawEdition_eq (e : EditionRec) (s : State) :
    withdrawEdition e s = refillDamage (unshelve e (dropReleased (editionSlots s e.objects)
      (releaseSlots (editionSlots s e.objects) s))) := by
  unfold withdrawEdition
  dsimp only
  rw [markAll_eq]
  rfl

theorem mem_unshelve_dirty {e : EditionRec} {g : Nat} : g ∈ (unshelve e s).dirty ↔
    g ∈ s.dirty ∨ g = editionGroup e.position ∨ ∃ r ∈ e.objects, g = objectGroup r.number := by
  rw [unshelve, Assoc.mem_addNat, mem_marked, or_left_comm]
  simp only [List.mem_map, exists_exists_and_eq_and, eq_comm (a := g)]

/-- The withdrawal in terms of the slots released and of the copy. -/
theorem withdrawEdition_frame (e : EditionRec) (s : State) :
    let ns := editionSlots s e.objects
    let u := copyReleased ns (releaseSlots ns s)
    let t := withdrawEdition e s
    t = { s with editions := s.editions.filter fun r => r.key != e.key
                 objects := t.objects, dirty := (unshelve e (releaseSlots ns s)).dirty
                 slots := u.slots, pool := u.pool, relocations := s.relocations.filter (fun n => !ns.contains n)
                 upkeep := { s.upkeep with buffer := u.upkeep.buffer }
                 burst := s.burst.map (outcomeDropped ns), locks := (removeLock e.key s).locks
                 damage := t.damage, overflow := t.overflow } := by
  intro ns u t
  have hcopy : u = { releaseSlots ns s with slots := u.slots, pool := u.pool
                                            upkeep := { s.upkeep with buffer := u.upkeep.buffer } } := by
    rcases copyReleased_cases ns (releaseSlots ns s) with ⟨h, -⟩ | ⟨h, -⟩ <;> simp only [u, h]
    · rw [releaseSlots_frame]
    · rw [dropCopy_frame, releaseSlots_frame]
  have ht : t = refillDamage (unshelve e { u with burst := s.burst.map (outcomeDropped ns) }) := by
    have hdrop := dropReleased_eq ns (releaseSlots ns s)
    rw [show (releaseSlots ns s).burst = s.burst by rw [releaseSlots_frame]] at hdrop
    rw [← hdrop]
    exact withdrawEdition_eq e s
  have hframe := refillDamage_frame (unshelve e { u with burst := s.burst.map (outcomeDropped ns) })
  rw [← ht] at hframe
  clear_value t u
  have hrel := releaseSlots_frame ns s
  generalize releaseSlots ns s = v at *
  rw [hframe, hcopy, hrel]
  rfl

theorem findEdition_withdrawEdition (e : EditionRec) (s : State) (k : EditionKey) :
    (withdrawEdition e s).findEdition k = if k = e.key then none else s.findEdition k := by
  rw [withdrawEdition_frame]
  simp only [State.findEdition, List.find?_filter]
  split
  · next h => subst h; exact List.find?_eq_none.mpr (by simp)
  · next h =>
    refine congrArg (List.find? · s.editions) (funext fun r => ?_)
    by_cases hr : r.key = k
    · subst hr; simp [h]
    · simp [hr]

theorem findObject_unshelve (e : EditionRec) (s : State) (m : Nat) :
    (unshelve e s).findObject m = if m ∈ e.objects.map (·.number) then none else s.findObject m := by
  simp only [unshelve, State.findObject, List.find?_filter]
  split
  · next h =>
    refine List.find?_eq_none.mpr fun o _ ho => ?_
    obtain ⟨hout, hom⟩ := of_decide_eq_true ho
    rw [List.contains_eq_mem, Bool.not_eq_true', decide_eq_false_iff_not] at hout
    exact hout (beq_iff_eq.mp hom ▸ h)
  · next h =>
    refine congrArg (List.find? · s.objects) (funext fun o => ?_)
    by_cases ho : o.number = m
    · subst ho; simp [List.contains_eq_mem, h]
    · simp [ho]

/-- The objects of the edition are gone, with their entries in the damage list; the others keep their records. -/
theorem withdrawEdition_objects (e : EditionRec) (s : State) (m : Nat) :
    (m ∈ e.objects.map (·.number) → (withdrawEdition e s).findObject m = none ∧
      ∀ d ∈ (withdrawEdition e s).damage, d.object ≠ m) ∧
    (m ∉ e.objects.map (·.number) → ((withdrawEdition e s).findObject m).map unheld = (s.findObject m).map unheld) := by
  rw [withdrawEdition_eq]
  set u := dropReleased (editionSlots s e.objects) (releaseSlots (editionSlots s e.objects) s)
  have hu : u.findObject m = s.findObject m := by
    refine congrArg (List.find? fun o : ObjectRec => o.number == m) ?_
    simp only [u, dropReleased_eq]
    rcases copyReleased_cases (editionSlots s e.objects) (releaseSlots (editionSlots s e.objects) s) with ⟨h, -⟩ | ⟨h, -⟩ <;>
      simp only [h]
    · rw [releaseSlots_frame]
    · rw [dropCopy_frame, releaseSlots_frame]
  obtain ⟨hobj, hdam⟩ := refillDamage_objects (unshelve e u) m
  rw [findObject_unshelve, hu] at hobj
  refine ⟨fun h => ⟨?_, fun d hd hdm => ?_⟩, fun h => ?_⟩
  · rw [if_pos h, Option.map_none, Option.map_eq_none_iff] at hobj
    exact hobj
  · rcases hdam d hd with hd | ⟨o, ho, hdo⟩
    · have hkept := (List.mem_filter.mp hd).2
      simp_all
    · have hkept := (List.mem_filter.mp ho).2
      simp_all
  · rw [hobj, if_neg h]

/-- Settles O15: the slots are released one by one, then the copy, the burst and the tables give up what they held of them. -/
theorem withdrawEditionReleasesAll : Obligations.WithdrawEditionReleasesAll := by
  intro tag key e s hs hk he hc ns retired
  have hkey : e.key = keyOf key := findEdition_key he
  have hmay : mayChange s e = true := (mayChange_iff hkey).mpr hc
  have hframe := withdrawEdition_frame e s
  have hfind := findEdition_withdrawEdition e s
  have hobjects := withdrawEdition_objects e s
  have hanswer : exec (.withdrawEdition .a tag key) s =
      .next (settle (pushOut .a (doneRecord tag [] [numberWord (ns.length - retired), numberWord retired]) (withdrawEdition e s))) := by
    refine exec_accepted hs rfl rfl rfl ?_
    simp only [hk, he, hmay, not_true_eq_false, if_false]
    exact answer_of_accepts hs (port_of_ports (by rw [hframe]) (by rw [hframe]) _)
  change let u := copyReleased ns (releaseSlots ns s); let t := withdrawEdition e s; t = _ at hframe
  generalize withdrawEdition e s = t at *
  dsimp only at hframe
  have hbuffer : (releaseSlots ns s).upkeep.buffer = s.upkeep.buffer := by rw [releaseSlots_frame]
  have hrburst : (releaseSlots ns s).burst = s.burst := by rw [releaseSlots_frame]
  have hslot (n : Nat) : t.slot n = (copyReleased ns (releaseSlots ns s)).slot n := by
    rw [State.slot, hframe]; rfl
  have hpool : t.pool = (copyReleased ns (releaseSlots ns s)).pool := by rw [hframe]
  have hcopies : t.upkeep.buffer = (copyReleased ns (releaseSlots ns s)).upkeep.buffer := by rw [hframe]
  have hburst : t.burst = s.burst.map (outcomeDropped ns) := by rw [hframe]
  have hdirty : t.dirty = (unshelve e (releaseSlots ns s)).dirty := by rw [hframe]
  have hkept : ∀ c, s.upkeep.buffer = some c → c.slot ∉ ns → copyReleased ns (releaseSlots ns s) = releaseSlots ns s := by
    intro c hcopy hn
    rcases copyReleased_cases ns (releaseSlots ns s) with ⟨h, -⟩ | ⟨h, c', hc', hn'⟩
    · exact h
    · rw [hbuffer, hcopy, Option.some.injEq] at hc'
      exact absurd (hc' ▸ hn') hn
  refine ⟨t, hanswer, by rw [hframe], ?_, fun k hk => ?_, ?_, fun k hk => ?_, fun r hr => ?_, fun m hm => ?_,
    fun n hn hcopy => ?_, by rw [hframe], by rw [hframe], fun c hcopy => ⟨fun hn => ?_, fun hn hb => ?_⟩, fun hb => ?_,
    fun b hb => ?_, fun hd hwf g => ?_, fun hd hout hwf hb => ?_⟩
  · rw [hfind, if_pos hkey.symm]
  · rw [hfind, if_neg (hkey ▸ hk)]
  · rw [lockOf_congr (s := removeLock e.key s) (by rw [hframe]), ← hkey, lockOf_removeLock_same]
  · rw [lockOf_congr (s := removeLock e.key s) (by rw [hframe]), lockOf_removeLock_other s (hkey ▸ hk)]
  · exact (hobjects r.number).1 (List.mem_map_of_mem hr)
  · exact (hobjects m).2 fun h => by
      obtain ⟨r, hr, rfl⟩ := List.mem_map.mp h
      exact hm r hr rfl
  · rw [hslot]
    rcases copyReleased_cases ns (releaseSlots ns s) with ⟨h, -⟩ | ⟨h, -⟩ <;> rw [h]
    · exact releaseSlots_slot_other hn s
    · rw [dropCopy_slot_other (by rw [hbuffer]; exact hcopy), releaseSlots_slot_other hn]
  · rw [hcopies, hkept c hcopy hn, hbuffer, hcopy]
  · rcases copyReleased_cases ns (releaseSlots ns s) with ⟨-, h⟩ | ⟨h, -⟩
    · exact absurd (hrburst.trans hb) (h c (hbuffer.trans hcopy) hn)
    · rw [hcopies, hpool, h]
      exact ⟨dropCopy_buffer _, fun target ht => mem_dropCopy_pool (hbuffer.trans hcopy) ht⟩
  · rw [hburst, hb]; rfl
  · rw [hburst, hb]; rfl
  · rw [hdirty, mem_unshelve_dirty, releaseSlots_dirty hd hwf]
    exact (or_assoc.trans (or_congr_right (or_comm.trans or_assoc))).trans (or_congr_right (or_congr_right (or_congr_right
      (exists_congr fun n => and_congr_right fun _ => Iff.rfl))))
  · have hself : copyReleased ns (releaseSlots ns s) = releaseSlots ns s := by rw [copyReleased, hbuffer, hb]
    refine ⟨?_, fun n hn => ?_⟩
    · rw [hpool, hself, releaseSlots_pool hd hwf hout]
    · rw [hslot, hself, releaseSlots_slot hd hwf hn, releasedEntry]

end Sys2Proof.Machine

end

section
/-!
PROOF. The laws of the slots (O21), first part: the layout that they speak of, and the changes that leave it.  `Laid` compares two states
by their slots' owners, the tile maps, the object lists and the pool; `Calm` says besides that the device state, the burst and the copy
stand and that a store whose write is in flight stays on its port.
-/

namespace Sys2Proof.Machine

open Sys2Proof

variable {s t u : State} {p : Port}

/-! ## The layout -/

/-- What the laws of the slots say of a slot's entry. -/
def slotPlace (e : SlotEntry) : SlotState × SlotOwner × Bool := (e.state, e.owner, e.written)

/-- What the laws of the slots say of an object's record. -/
def objectPlace (o : ObjectRec) : Nat × EditionKey × List MapEntry := (o.number, o.key, o.tileMap)

/-- The numbers of an edition's objects, in the order of its list. -/
def objectNumbers (e : EditionRec) : List Nat := e.objects.map (·.number)

/-- A change from `s` to `t` that leaves the layout: a new edition, without objects, may stand in the table. -/
structure Laid (s t : State) : Prop where
  slots : Assoc.wf slotDefault s.slots = true → Assoc.wf slotDefault t.slots = true ∧ ∀ n, slotPlace (t.slot n) = slotPlace (s.slot n)
  objects : t.objects.map objectPlace = s.objects.map objectPlace
  editions : ∀ e ∈ t.editions, objectNumbers e = [] ∨ ∃ q ∈ s.editions, q.key = e.key ∧ objectNumbers q = objectNumbers e
  pool : t.pool = s.pool

theorem Laid.of_same (hs : t.slots = s.slots) (ho : t.objects = s.objects) (he : t.editions = s.editions) (hp : t.pool = s.pool) :
    Laid s t :=
  ⟨fun h => ⟨hs ▸ h, fun n => by rw [State.slot, hs]; rfl⟩, by rw [ho], fun e h => .inr ⟨e, he ▸ h, rfl, rfl⟩, hp⟩

theorem Laid.refl (s : State) : Laid s s := .of_same rfl rfl rfl rfl

theorem Laid.trans (h : Laid s t) (k : Laid t u) : Laid s u := by
  refine ⟨fun hw => ?_, k.objects.trans h.objects, fun e he => ?_, k.pool.trans h.pool⟩
  · obtain ⟨hw', hs⟩ := h.slots hw
    obtain ⟨hw'', hs'⟩ := k.slots hw'
    exact ⟨hw'', fun n => (hs' n).trans (hs n)⟩
  · rcases k.editions e he with h0 | ⟨q, hq, hk, hn⟩
    · exact .inl h0
    · rcases h.editions q hq with h0 | ⟨r, hr, hk', hn'⟩
      · exact .inl (hn ▸ h0)
      · exact .inr ⟨r, hr, hk'.trans hk, hn'.trans hn⟩

/-- A slot's entry may change in what the laws do not speak of. -/
theorem laid_setSlot {n : Nat} {e : SlotEntry} (h : slotPlace e = slotPlace (s.slot n)) : Laid s (s.setSlot n e) := by
  refine ⟨fun hw => ⟨wf_setSlot s n e hw, fun m => ?_⟩, rfl, fun q hq => .inr ⟨q, hq, rfl, rfl⟩, rfl⟩
  by_cases hm : m = n
  · rw [hm, slot_setSlot_same s n e hw, h]
  · rw [slot_setSlot_other s e hm]

/-- The same, with what else has changed. -/
theorem laid_slot (n : Nat) (e : SlotEntry) (h : slotPlace e = slotPlace (s.slot n)) (hs : t.slots = (s.setSlot n e).slots)
    (ho : t.objects = s.objects) (he : t.editions = s.editions) (hp : t.pool = s.pool) : Laid s t :=
  (laid_setSlot h).trans (.of_same hs ho he hp)

/-- Object records may change in what the laws do not speak of. -/
theorem laid_objects {f : ObjectRec → ObjectRec} (h : ∀ o, objectPlace (f o) = objectPlace o) : Laid s { s with objects := s.objects.map f } :=
  ⟨fun hw => ⟨hw, fun _ => rfl⟩, (List.map_map ..).trans (List.map_congr_left fun o _ => h o), fun q hq => .inr ⟨q, hq, rfl, rfl⟩, rfl⟩

/-- Edition records may change in what the laws do not speak of. -/
theorem laid_modEdition {k : EditionKey} {f : EditionRec → EditionRec} (hk : ∀ e, (f e).key = e.key)
    (hn : ∀ e, objectNumbers (f e) = objectNumbers e) : Laid s (s.modEdition k f) := by
  refine ⟨fun hw => ⟨hw, fun _ => rfl⟩, rfl, fun e he => ?_, rfl⟩
  obtain ⟨q, hq, rfl⟩ := List.mem_map.mp he
  refine .inr ⟨q, hq, ?_, ?_⟩
  · split
    · exact (hk q).symm
    · rfl
  · split
    · exact (hn q).symm
    · rfl

/-- The object of a number has the same tile map. -/
theorem findObject_of_places (h : t.objects.map objectPlace = s.objects.map objectPlace) (n : Nat) :
    (t.findObject n).map objectPlace = (s.findObject n).map objectPlace := by
  have hfind (os : List ObjectRec) : (os.find? fun o => o.number == n).map objectPlace =
      (os.map objectPlace).find? fun x => x.1 == n := by rw [List.find?_map]; rfl
  exact (hfind _).trans ((congrArg _ h).trans (hfind _).symm)

theorem tileSlot_of_places (h : t.objects.map objectPlace = s.objects.map objectPlace) (object index : Nat) :
    tileSlot t object index = tileSlot s object index := by
  have hf := findObject_of_places h object
  unfold tileSlot
  cases hs : s.findObject object with
  | none =>
    rw [hs, Option.map_none, Option.map_eq_none_iff] at hf
    rw [hf]
  | some o =>
    rw [hs, Option.map_some, Option.map_eq_some_iff] at hf
    obtain ⟨q, hq, hqo⟩ := hf
    rw [hq]
    have hmap : q.tileMap = o.tileMap := congrArg (fun x => x.2.2) hqo
    simp only [hmap]

theorem targetOf_of_laid (hw : Assoc.wf slotDefault s.slots = true) (h : Laid s t) {old target : Nat} (ht : TargetOf s old target) :
    TargetOf t old target := by
  have hp := (h.slots hw).2 target
  exact ⟨ht.1, (congrArg (·.1) hp).trans ht.2.1, (congrArg (·.2.1) hp).trans ht.2.2⟩

/-! ## The tables' part of the laws -/

/-- The laws of the slots that the layout alone decides. -/
structure Tables (s : State) : Prop where
  owned : TilesOwned s
  tileSlots : ∀ o ∈ s.objects, ∀ m ∈ o.tileMap, 512 ≤ m.slot
  poolOnce : s.pool.Nodup
  poolFree : ∀ n ∈ s.pool, 512 ≤ n ∧ (s.slot n).state = .free
  listedOnce : ∀ e ∈ s.editions, (e.objects.map (·.number)).Nodup
  listed : ∀ e ∈ s.editions, ∀ r ∈ e.objects, ∃ o, s.findObject r.number = some o ∧ o.key = e.key

/-- The laws of the slots that speak of the copy and of the burst in flight. -/
structure Work (s : State) : Prop where
  copyTarget : ∀ c target, s.upkeep.buffer = some c → c.purpose = .relocation target → TargetOf s c.slot target
  readTarget : ∀ b target g dropped noCopy, s.burst = some b → b.work = .relocationRead target g dropped noCopy →
    s.upkeep.buffer = none ∧ TargetOf s b.slot target
  writeTarget : ∀ b old dropped, s.burst = some b → b.work = .relocationWrite old dropped →
    TargetOf s old b.slot ∧ ∀ c, s.upkeep.buffer = some c → c.purpose = .relocation b.slot
  storeSlot : ∀ b i, s.burst = some b → b.work = .storeWrite i →
    ∃ c, s.portA.op = .store c ∧ tileSlot s c.object i = b.slot

theorem SlotLaw.tables (h : SlotLaw s) : Tables s := ⟨h.owned, h.tileSlots, h.poolOnce, h.poolFree, h.listedOnce, h.listed⟩

theorem SlotLaw.work (h : SlotLaw s) : Work s := ⟨h.copyTarget, h.readTarget, h.writeTarget, h.storeSlot⟩

theorem Tables.law (h : Tables s) (k : Work s) : SlotLaw s :=
  ⟨h.owned, h.tileSlots, h.poolOnce, h.poolFree, h.listedOnce, h.listed, k.copyTarget, k.readTarget, k.writeTarget, k.storeSlot⟩

theorem mem_place (h : Laid s t) {o : ObjectRec} (ho : o ∈ t.objects) :
    ∃ q ∈ s.objects, q.number = o.number ∧ q.key = o.key ∧ q.tileMap = o.tileMap := by
  have hmem : objectPlace o ∈ s.objects.map objectPlace := h.objects ▸ List.mem_map_of_mem ho
  obtain ⟨q, hq, hqo⟩ := List.mem_map.mp hmem
  exact ⟨q, hq, congrArg (·.1) hqo, congrArg (·.2.1) hqo, congrArg (·.2.2) hqo⟩

theorem Tables.of_laid (hw : Assoc.wf slotDefault s.slots = true) (h : Laid s t) (hs : Tables s) : Tables t := by
  have hplace := (h.slots hw).2
  refine ⟨fun o ho i m hm => ?_, fun o ho m hm => ?_, h.pool ▸ hs.poolOnce, fun n hn => ?_, fun e he => ?_, fun e he r hr => ?_⟩
  · obtain ⟨q, hq, hnum, -, hmap⟩ := mem_place h ho
    obtain ⟨hst, how, hwr⟩ := hs.owned q hq i m (hmap ▸ hm)
    exact ⟨(congrArg (·.1) (hplace m.slot)).trans hst, (congrArg (·.2.1) (hplace m.slot)).trans (hnum ▸ how),
      (congrArg (·.2.2) (hplace m.slot)).trans hwr⟩
  · obtain ⟨q, hq, -, -, hmap⟩ := mem_place h ho
    exact hs.tileSlots q hq m (hmap ▸ hm)
  · obtain ⟨h512, hfree⟩ := hs.poolFree n (h.pool ▸ hn)
    exact ⟨h512, (congrArg (·.1) (hplace n)).trans hfree⟩
  · rcases h.editions e he with h0 | ⟨q, hq, -, hn⟩
    · change (objectNumbers e).Nodup
      rw [h0]
      exact List.nodup_nil
    · exact (hn ▸ hs.listedOnce q hq : (objectNumbers e).Nodup)
  · rcases h.editions e he with h0 | ⟨q, hq, hk, hn⟩
    · rw [List.map_eq_nil_iff.mp h0] at hr
      cases hr
    · have hmem : r.number ∈ objectNumbers q := hn ▸ List.mem_map_of_mem hr
      obtain ⟨r', hr', hrr⟩ := List.mem_map.mp hmem
      obtain ⟨o, ho, hok⟩ := hs.listed q hq r' hr'
      have hf := findObject_of_places h.objects r.number
      rw [← hrr, ho, Option.map_some, Option.map_eq_some_iff] at hf
      obtain ⟨o', ho', hoo⟩ := hf
      exact ⟨o', hrr ▸ ho', (congrArg (·.2.1) hoo).trans (hok.trans hk)⟩

/-- The object table and the slot table have their form. -/
structure Formed (s : State) : Prop where
  numbersRise : (s.objects.map (·.number)).Pairwise (· < ·)
  tableForm : Assoc.wf slotDefault s.slots = true

theorem SlotsSound.formed (h : SlotsSound s) : Formed s := ⟨h.numbersRise, h.tableForm⟩

theorem Formed.of_laid (h : Laid s t) (hs : Formed s) : Formed t := by
  refine ⟨?_, (h.slots hs.tableForm).1⟩
  have hnum (os : List ObjectRec) : os.map (·.number) = (os.map objectPlace).map (·.1) := by rw [List.map_map]; rfl
  rw [hnum, h.objects, ← hnum]
  exact hs.numbersRise

/-! ## Calm changes -/

/-- The object of the store in flight, if the operation is one. -/
def storeOn : Op → Option Nat
  | .store c => some c.object
  | _ => none

theorem storeOn_eq_none {o : Op} : storeOn o = none ↔ ∀ c, o ≠ .store c := by
  cases o <;> simp [storeOn]

theorem storeOn_eq_some {o : Op} {n : Nat} : storeOn o = some n ↔ ∃ c, o = .store c ∧ c.object = n := by
  cases o <;> simp [storeOn]

/-- A store's write is in flight. -/
def Storing (s : State) : Prop := ∃ b i, s.burst = some b ∧ b.work = .storeWrite i

theorem not_storing_of_none (h : s.burst = none) : ¬ Storing s := by
  rintro ⟨b, i, hb, -⟩
  rw [h] at hb
  cases hb

theorem not_storing_of_not_inBurst (h : portInBurst .a s = false) : ¬ Storing s := by
  rintro ⟨b, i, hb, hw⟩
  rw [portInBurst, hb] at h
  simp [Burst.requester, hw] at h

/-- A change that leaves the layout, the device state, the burst and the copy, and a store whose write is in flight. -/
structure Calm (s t : State) : Prop where
  laid : Laid s t
  device : t.device = s.device
  reset : t.resetAsserted = s.resetAsserted
  burst : t.burst = s.burst
  buffer : t.upkeep.buffer = s.upkeep.buffer
  storeA : Storing s → ∀ n, storeOn s.portA.op = some n → storeOn t.portA.op = some n
  storeB : storeOn s.portB.op = none → storeOn t.portB.op = none

theorem Calm.refl (s : State) : Calm s s := ⟨.refl s, rfl, rfl, rfl, rfl, fun _ _ => id, id⟩

theorem Calm.trans (h : Calm s t) (k : Calm t u) : Calm s u :=
  ⟨h.laid.trans k.laid, k.device.trans h.device, k.reset.trans h.reset, k.burst.trans h.burst, k.buffer.trans h.buffer,
    fun hs n hn => k.storeA (by rw [Storing, h.burst]; exact hs) n (h.storeA hs n hn), k.storeB ∘ h.storeB⟩

/-- The fields that a calm change of the ports alone leaves as they are. -/
def State.core (s : State) : List (Nat × SlotEntry) × List ObjectRec × List EditionRec × List Nat × DeviceState × Bool ×
    Option Burst × Option Copy :=
  (s.slots, s.objects, s.editions, s.pool, s.device, s.resetAsserted, s.burst, s.upkeep.buffer)

theorem Calm.of_core (h : t.core = s.core)
    (ha : Storing s → ∀ n, storeOn s.portA.op = some n → storeOn t.portA.op = some n)
    (hb : storeOn s.portB.op = none → storeOn t.portB.op = none) : Calm s t := by
  simp only [State.core, Prod.mk.injEq] at h
  obtain ⟨hs, ho, he, hp, hd, hr, hbu, hbf⟩ := h
  exact ⟨.of_same hs ho he hp, hd, hr, hbu, hbf, ha, hb⟩

/-- A change that leaves those fields and the operations in flight. -/
theorem Calm.of_same (h : t.core = s.core) (ha : t.portA.op = s.portA.op) (hb : t.portB.op = s.portB.op) : Calm s t :=
  .of_core h (fun _ _ hn => ha ▸ hn) fun hn => hb ▸ hn

/-- A change of the layout's free part that leaves the operations in flight. -/
theorem Laid.calm (h : Laid s t) (hc : (t.device, t.resetAsserted, t.burst, t.upkeep.buffer) =
    (s.device, s.resetAsserted, s.burst, s.upkeep.buffer)) (ha : t.portA.op = s.portA.op) (hb : t.portB.op = s.portB.op) : Calm s t := by
  simp only [Prod.mk.injEq] at hc
  obtain ⟨hd, hr, hbu, hbf⟩ := hc
  exact ⟨h, hd, hr, hbu, hbf, fun _ n hn => ha ▸ hn, fun hn => hb ▸ hn⟩

/-- A calm change keeps the slots sound. -/
theorem Calm.sound (h : Calm s t) (hs : SlotsSound s) : SlotsSound t := by
  have hw := hs.tableForm
  have hf := hs.formed.of_laid h.laid
  have hB := h.storeB (storeOn_eq_none.mpr hs.noStoreOnB)
  refine ⟨hf.numbersRise, hf.tableForm, storeOn_eq_none.mp hB, ?_, ?_, ?_, fun hp hfa => ?_⟩
  · rw [h.device, h.buffer]; exact hs.preparingBuffer
  · rw [h.device, h.burst]; exact hs.preparingBurst
  · rw [h.device, h.reset, h.burst]; exact hs.inReset
  · rw [h.device] at hp hfa
    have hl := hs.law hp hfa
    refine (hl.tables.of_laid hw h.laid).law ⟨?_, ?_, ?_, ?_⟩ <;> simp only [h.burst, h.buffer]
    · exact fun c target hc hpu => targetOf_of_laid hw h.laid (hl.copyTarget c target hc hpu)
    · intro b target g dropped noCopy hb hwk
      obtain ⟨hn, ht⟩ := hl.readTarget b target g dropped noCopy hb hwk
      exact ⟨hn, targetOf_of_laid hw h.laid ht⟩
    · intro b old dropped hb hwk
      obtain ⟨ht, hc⟩ := hl.writeTarget b old dropped hb hwk
      exact ⟨targetOf_of_laid hw h.laid ht, hc⟩
    · intro b i hb hwk
      obtain ⟨c, hc, hslot⟩ := hl.storeSlot b i hb hwk
      obtain ⟨c', hc', hobj⟩ := storeOn_eq_some.mp (h.storeA ⟨b, i, hb, hwk⟩ c.object (by rw [hc]; rfl))
      exact ⟨c', hc', by rw [tileSlot_of_places h.laid.objects, hobj, hslot]⟩

/-! ## Calm changes of a port -/

/-- A port whose operation may be replaced: it is no store, or no store's write is in flight. -/
def Replaceable (p : Port) (s : State) : Prop := storeOn (s.port p).op = none ∨ ¬ Storing s

theorem calm_modPort {f : PortEngine → PortEngine} (h : storeOn (f (s.port p)).op = storeOn (s.port p).op) :
    Calm s (s.modPort p f) := by
  cases p with
  | a => exact .of_core rfl (fun _ n hn => h.trans hn) id
  | b => exact .of_core rfl (fun _ _ => id) fun hn => h.trans hn

theorem calm_modPort_replaced {f : PortEngine → PortEngine} (h : storeOn (f (s.port p)).op = none) (hr : Replaceable p s) :
    Calm s (s.modPort p f) := by
  cases p with
  | a =>
    refine .of_core rfl (fun hst n hn => ?_) id
    rcases hr with hr | hr
    · rw [show storeOn s.portA.op = none from hr] at hn
      cases hn
    · exact absurd hst hr
  | b => exact .of_core rfl (fun _ _ => id) fun _ => h

theorem calm_setOp {o : Op} (h : storeOn o = none) (hr : Replaceable p s) : Calm s (s.setOp p o) := calm_modPort_replaced h hr

/-- The operation replaced is itself no store. -/
theorem calm_setOp_of {o q : Op} (hq : (s.port p).op = q) (h : storeOn o = none) (hn : storeOn q = none) : Calm s (s.setOp p o) :=
  calm_setOp h (.inl (hq ▸ hn))

theorem calm_respond (r : Response) (k : Option EditionKey) (store : Bool) (hr : Replaceable p s) : Calm s (respond p r k store s) :=
  calm_setOp rfl hr

theorem calm_pushOut (r : OutRecord) : Calm s (pushOut p r s) := calm_modPort rfl

theorem calm_dropSnapshot : Calm s (dropSnapshot p s) := calm_modPort rfl

theorem calm_discardData : Calm s (s.modPort p fun e => { e with inq := discardData e.inq }) := calm_modPort rfl

/-- A command that is answered is in flight, if at all, in place of no operation. -/
theorem calm_answer (r : Response) (h : (s.port p).op = .idle) : Calm s (answer p r s) := by
  rcases answer_cases (p := p) (s := s) r with ⟨-, e⟩ | ⟨-, e⟩ <;> rw [e]
  · exact calm_pushOut _
  · exact calm_setOp_of h rfl rfl

theorem calm_raiseBank (b : Nat) : Calm s (raiseBank b p s) := by
  rcases raiseBank_cases b p s with h | h <;> rw [h]
  · exact calm_pushOut _
  · exact calm_modPort rfl

theorem calm_raiseDevice : Calm s (raiseDevice p s) := by
  rcases raiseDevice_cases p s with h | h <;> rw [h]
  · exact calm_pushOut _
  · exact calm_modPort rfl

theorem calm_raiseStray (n : Nat) : Calm s (raiseStray n p s) := by
  rcases raiseStray_cases n p s with h | h <;> rw [h]
  · exact calm_pushOut _
  · exact calm_modPort rfl

theorem calm_enterRecord (r : InRecord) : Calm s (enterRecord p r s) := by
  unfold enterRecord
  split
  · exact calm_raiseStray _
  · split <;> exact calm_modPort rfl

theorem calm_receive (r : InRecord) : Calm s (receive p r s) := by
  rcases receive_cases (p := p) (s := s) r with ⟨-, e⟩ | ⟨-, -, -, e⟩ | ⟨-, -, -, e⟩ <;> rw [e]
  · exact .refl s
  · exact calm_modPort rfl
  · exact calm_enterRecord r

theorem calm_foldl {β : Type} {f : State → β → State} (hf : ∀ s x, Calm s (f s x)) (l : List β) (s : State) : Calm s (l.foldl f s) := by
  induction l generalizing s with
  | nil => exact .refl s
  | cons x rest ih => exact (hf s x).trans (ih _)

end Sys2Proof.Machine

end

section
/-!
PROOF. The laws of the slots (O21), second part: the operations that are calm, that is all but those that take slots from the pool or give
them back, start bursts, or lead into another device state.
-/

namespace Sys2Proof.Machine

open Sys2Proof

variable {s t u v : State} {p : Port}

/-! ## Slots and objects -/

theorem laid_markDirty (g : Nat) : Laid s (markDirty g s) := .of_same rfl rfl rfl rfl

theorem laid_leaveRelocations (n : Nat) : Laid s (leaveRelocations n s) := by
  unfold leaveRelocations
  split
  · exact laid_slot n _ (by rfl) rfl rfl rfl rfl
  · exact .refl s

theorem laid_joinRelocations (n : Nat) : Laid s (joinRelocations n s) := by
  rcases joinRelocations_cases n s with e | ⟨-, -, -, -, -, -, e⟩ <;> rw [e]
  · exact .refl s
  · exact laid_slot n _ (by rfl) rfl rfl rfl rfl

theorem calm_joinRelocations (n : Nat) : Calm s (joinRelocations n s) :=
  (laid_joinRelocations n).calm (by rw [joinRelocations_frame]) (by rw [joinRelocations_frame]) (by rw [joinRelocations_frame])

theorem laid_startWrite (n : Nat) : Laid s (startWrite n s) := by
  unfold startWrite
  dsimp only
  split
  · exact laid_slot n _ (by rfl) rfl rfl rfl rfl
  · exact laid_slot n _ (by rfl) rfl rfl rfl rfl

theorem calm_startWrite (n : Nat) : Calm s (startWrite n s) :=
  (laid_startWrite n).calm (by rw [startWrite_frame]) (by rw [startWrite_frame]) (by rw [startWrite_frame])

theorem laid_recountWhere (choose : ObjectRec → Bool) : Laid s (recountWhere choose s) :=
  (laid_objects (f := fun o => if choose o then { o with impairedCount := impairedTiles s o } else o)
    fun o => by split <;> rfl).trans (.of_same rfl rfl rfl rfl)

theorem calm_recountWhere (choose : ObjectRec → Bool) : Calm s (recountWhere choose s) := (laid_recountWhere choose).calm rfl rfl rfl

/-- A withheld mark may change. -/
theorem laid_withheld (n : Nat) (b : Bool) : Laid s (s.modObject n fun o => { o with withheld := b }) :=
  laid_objects fun o => by split <;> rfl

theorem laid_raiseDamage (n : Nat) : Laid s (raiseDamage n s) := by
  unfold raiseDamage
  split
  · exact .refl s
  · split
    · exact .of_same rfl rfl rfl rfl
    · split
      · exact .refl s
      · split
        · exact .of_same rfl rfl rfl rfl
        · exact (laid_withheld n true).trans (.of_same rfl rfl rfl rfl)

theorem laid_recordDamage (n : Nat) : Laid s (recordDamage n s) := by
  unfold recordDamage
  dsimp only
  split
  · refine .trans (.trans ?_ (laid_recountWhere _)) (laid_raiseDamage _)
    exact laid_slot n _ (by rfl) rfl rfl rfl rfl
  · exact .refl s

theorem calm_recordDamage (n : Nat) : Calm s (recordDamage n s) :=
  (laid_recordDamage n).calm (by rw [recordDamage_frame]) (by rw [recordDamage_frame]) (by rw [recordDamage_frame])

theorem calm_masterDamage (n : Nat) (r : ReadResult) : Calm s (masterDamage n r s) := by
  unfold masterDamage
  split
  · exact calm_recordDamage n
  · exact .refl s

theorem laid_refillFrom (os : List ObjectRec) (s : State) : Laid s (refillFrom os s) := by
  induction os generalizing s with
  | nil => exact .refl s
  | cons o rest ih =>
    rw [refillFrom]
    split
    · refine .trans ?_ (ih _)
      exact (laid_withheld o.number false).trans (.of_same rfl rfl rfl rfl)
    · exact ih s

theorem laid_refillDamage (s : State) : Laid s (refillDamage s) := by
  unfold refillDamage
  dsimp only
  split
  · exact laid_refillFrom _ s
  · exact (laid_refillFrom _ s).trans (.of_same rfl rfl rfl rfl)

theorem calm_refillDamage : Calm s (refillDamage s) :=
  (laid_refillDamage s).calm (by rw [refillDamage_frame]) (by rw [refillDamage_frame]) (by rw [refillDamage_frame])

/-! ## Journal and locks -/

theorem calm_voidOrder (n : BitVec 32) : Calm s (voidOrder n s) := by rw [voidOrder_frame]; exact .of_same rfl rfl rfl

theorem calm_voidAll : Calm s (voidAll s) := by rw [voidAll_frame]; exact .of_same rfl rfl rfl

theorem calm_removeLock (k : EditionKey) : Calm s (removeLock k s) := .of_same rfl rfl rfl

theorem calm_releaseHeld (k : EditionKey) : Calm s (releaseHeld k s) := by
  unfold releaseHeld
  split
  · exact calm_removeLock k
  · split
    · exact (calm_removeLock k).trans
        (Laid.calm (.trans (laid_modEdition (by intro; rfl) (by intro; rfl)) (laid_markDirty _)) rfl rfl rfl)
    · exact calm_removeLock k

theorem calm_releaseAll : Calm s (releaseAll s) := by
  refine calm_foldl (fun s x => ?_) _ _
  obtain ⟨k, st⟩ := x
  cases st with
  | held => exact calm_releaseHeld k
  | pending => exact calm_removeLock k

theorem calm_lockBecomesHeld (k : EditionKey) : Calm s (lockBecomesHeld k s) := by
  unfold lockBecomesHeld
  split
  · have hheld : Calm s (holdLock k s) := .of_same rfl rfl rfl
    dsimp only
    split
    · next tag key h =>
      split
      · exact hheld.trans (calm_setOp_of (p := .a) h rfl rfl)
      · exact hheld
    · exact hheld
  · exact .refl s

/-! ## The ends of operations -/

theorem calm_endOp (hr : Replaceable p s) : Calm s (endOp p s) := by
  have h : Calm s (s.modPort p fun e => { e with op := .idle, snapshot := none }) := calm_modPort_replaced rfl hr
  unfold endOp
  dsimp only
  split
  · exact h.trans (calm_lockBecomesHeld _)
  · exact h

theorem calm_placeResponse {r : Response} (hr : Replaceable p s) (h : placeResponse p r s = some t) : Calm s t := by
  unfold placeResponse at h
  split at h
  · obtain rfl := Option.some.inj h
    refine (calm_pushOut _).trans (calm_endOp (hr.imp (fun hn => ?_) fun hn hst => hn ?_))
    · rw [pushOut_op]
      exact hn
    · cases p <;> exact hst
  · simp at h

theorem calm_renderCancelled (c : RenderCtx) (hr : Replaceable p s) : Calm s (renderCancelled p c s) :=
  (calm_respond _ _ _ hr).trans calm_dropSnapshot

theorem calm_orderCancelled (o : OrderCtx) (hr : Replaceable p s) : Calm s (orderCancelled p o s) :=
  (calm_respond _ _ _ hr).trans calm_dropSnapshot

theorem calm_storeFaulted (c : StoreCtx) (hr : ¬ Storing s) : Calm s (storeFaulted c s) :=
  calm_discardData.trans (calm_respond _ _ _ (.inr hr))

theorem calm_endWait : Calm s (endWait p s) := by
  unfold endWait
  split
  · next h => exact calm_respond _ _ _ (.inl (by rw [h]; rfl))
  · next o h =>
    split
    · exact calm_orderCancelled o (.inl (by rw [h]; rfl))
    · exact .refl s
    · exact .refl s
  all_goals exact .refl s

theorem calm_cancelOp : Calm s (cancelOp p s) := by
  unfold cancelOp
  dsimp only
  split
  · next c h =>
    split
    · exact (calm_modPort (by rw [h]; rfl)).trans calm_discardData
    · exact .refl s
  · next c h =>
    split
    · exact .refl s
    · split
      · exact (calm_setOp_of h rfl rfl).trans calm_discardData
      · exact (calm_renderCancelled c (.inl (by rw [h]; rfl))).trans calm_discardData
  · next o h =>
    have hvoid : Calm s (orderCancelled p o (voidOrder o.sequence s)) :=
      (calm_voidOrder _).trans (calm_orderCancelled o (.inl (by rw [voidOrder_port, h]; rfl)))
    split
    · exact hvoid.trans calm_discardData
    · split
      · exact .refl s
      · split
        · exact (calm_voidOrder _).trans ((calm_setOp_of ((congrArg _ (voidOrder_port ..)).trans h) rfl rfl).trans calm_discardData)
        · exact hvoid.trans calm_discardData
    · exact .refl s
  · next tag key h =>
    exact (calm_removeLock key).trans ((calm_respond _ _ _ (.inl (by cases p <;> exact congrArg storeOn h))).trans calm_discardData)
  · next h => exact (calm_respond _ _ _ (.inl (by rw [h]; rfl))).trans calm_discardData
  all_goals exact .refl s

theorem calm_takeCancel : Calm s (takeCancel p s) := by
  have hwait : Calm s (if bankOffline s 0 then (endWait p s).modPort p fun e => { e with inq := discardData e.inq } else s) := by
    split
    · exact calm_endWait.trans calm_discardData
    · exact .refl s
  unfold takeCancel
  split
  · exact .refl s
  · split
    · exact hwait
    · split
      · exact hwait
      · exact calm_cancelOp
      · exact calm_cancelOp
    · exact .refl s
    · exact calm_cancelOp
    · exact calm_cancelOp
    · exact calm_cancelOp
    · exact calm_cancelOp
    · exact .refl s

theorem calm_takeRestart : Calm s (takeRestart p s) := calm_modPort (by split <;> rfl)

theorem calm_powerEnds : Calm s (powerEnds p s) := by
  unfold powerEnds
  split
  · exact .refl s
  · exact calm_cancelOp

/-- Port B has no store, so its operation may be replaced. -/
theorem replaceable_of (hb : storeOn s.portB.op = none) (h : portInBurst p s = false) : Replaceable p s := by
  cases p with
  | a => exact .inr (not_storing_of_not_inBurst h)
  | b => exact .inl hb

theorem calm_restartEnds (hr : Replaceable p s) : Calm s (restartEnds p s) := by
  have hvoid : Calm s (match (s.port p).op with | .order o => voidOrder o.sequence s | _ => s) := by
    split
    · exact calm_voidOrder _
    · exact .refl s
  have hvr : Replaceable p (match (s.port p).op with | .order o => voidOrder o.sequence s | _ => s) := by
    split
    · exact hr.imp (fun h => by rw [voidOrder_port]; exact h) fun h hst => h (by rw [voidOrder_frame] at hst; exact hst)
    · exact hr
  have hmark (t : State) : Calm t (t.modPort p fun e => { e with restart := .answering }) := calm_modPort rfl
  refine hvoid.trans ((calm_endOp hvr).trans ?_)
  cases p with
  | a => exact calm_releaseAll.trans (hmark _)
  | b => exact hmark _

/-! ## The operations in flight -/

theorem takeRecord_object (width : Nat) (c : StoreCtx) (ws : List Word) : (c.takeRecord width ws).1.object = c.object := by
  have hplace (vs : List Sample) (d : StoreCtx) : (vs.foldl (StoreCtx.placeSample width) d).object = d.object := by
    induction vs generalizing d with
    | nil => rfl
    | cons x vs ih => exact ih _
  unfold StoreCtx.takeRecord
  dsimp only
  split
  · exact hplace _ c
  · split <;> exact hplace _ c

theorem calm_advanceStore {c : StoreCtx} (hc : s.portA.op = .store c) (h : advanceStore c s = some t) : Calm s t := by
  have hdone (r : Response) (hb : portInBurst .a s = false) : Calm s (respond .a r none true s) :=
    calm_respond _ _ _ (.inr (not_storing_of_not_inBurst hb))
  have hstep (d : StoreCtx) (hd : d.object = c.object) : Calm s (s.setOp .a (.store d)) :=
    calm_modPort (p := .a) (show some d.object = storeOn s.portA.op by rw [hc, hd]; rfl)
  unfold advanceStore at h
  split at h
  · split at h
    · split at h
      · simp at h
      · next hb => obtain rfl := Option.some.inj h; exact hdone _ (by simpa using hb)
    · split at h
      · simp at h
      · obtain rfl := Option.some.inj h; exact hstep _ rfl
  · split at h
    · simp at h
    · next r rest hq =>
      split at h
      · obtain rfl := Option.some.inj h
        exact calm_modPort (p := .a) (show some (c.takeRecord _ r.payload).1.object = storeOn s.portA.op by
          rw [hc, takeRecord_object]; rfl)
      · obtain rfl := Option.some.inj h; exact hstep _ rfl
  · split at h
    · simp at h
    · next hb =>
      rw [Bool.or_eq_true, not_or, Bool.not_eq_true] at hb
      split at h
      · obtain rfl := Option.some.inj h; exact hdone _ hb.1
      · split at h
        · obtain rfl := Option.some.inj h; exact hdone _ hb.1
        · split at h
          · simp at h
          · obtain rfl := Option.some.inj h; exact hstep _ rfl

theorem storeOn_of_renderCtx {o : Op} {c : RenderCtx} (h : o.renderCtx = some c) : storeOn o = none := by
  cases o <;> first | rfl | cases h

theorem storeOn_withRender {o : Op} (c : RenderCtx) (h : storeOn o = none) : storeOn (o.withRender c) = none := by
  cases o <;> first | rfl | cases h

theorem calm_completeOrder (o : OrderCtx) (h : storeOn (s.port p).op = none) : Calm s (completeOrder p o s) := by
  unfold completeOrder
  split
  · exact calm_setOp rfl (.inl h)
  · refine Calm.trans (t := { s with journal := _, billingPending := true, accounts := _ }) (.of_same rfl rfl rfl)
      (calm_setOp rfl (.inl ?_))
    cases p <;> exact h

theorem calm_renderDone (c : RenderCtx) (h : storeOn (s.port p).op = none) : Calm s (renderDone p c s) := by
  unfold renderDone
  split
  · exact (calm_completeOrder _ h).trans calm_dropSnapshot
  · exact (calm_respond _ _ _ (.inl h)).trans calm_dropSnapshot

theorem calm_renderStopped (c : RenderCtx) (h : storeOn (s.port p).op = none) : Calm s (renderStopped p c s) := by
  unfold renderStopped
  split
  · exact calm_orderCancelled _ (.inl h)
  · exact calm_renderCancelled _ (.inl h)

theorem calm_withRender (c : RenderCtx) (h : storeOn (s.port p).op = none) : Calm s (s.setOp p ((s.port p).op.withRender c)) :=
  calm_setOp (storeOn_withRender c h) (.inl h)

theorem calm_advanceEmit {c : RenderCtx} {o : ObjectRec} (hn : storeOn (s.port p).op = none) (h : advanceEmit p c o s = some t) :
    Calm s t := by
  unfold advanceEmit at h
  dsimp only at h
  split at h
  · split at h
    · obtain rfl := Option.some.inj h
      exact (calm_pushOut _).trans (calm_setOp (storeOn_withRender _ hn) (.inl (by rw [pushOut_op]; exact hn)))
    · simp at h
  · split at h
    · obtain rfl := Option.some.inj h; exact calm_renderDone c hn
    · split at h
      · split at h
        · simp at h
        · obtain rfl := Option.some.inj h; exact calm_withRender _ hn
      · obtain rfl := Option.some.inj h; exact calm_withRender _ hn

theorem calm_advanceRender {c : RenderCtx} (hn : storeOn (s.port p).op = none) (h : advanceRender p c s = some t) : Calm s t := by
  unfold advanceRender at h
  split at h
  · simp at h
  · split at h
    · obtain rfl := Option.some.inj h; exact calm_renderStopped c hn
    · split at h
      · simp at h
      · split at h
        · split at h
          · simp at h
          · split at h
            · obtain rfl := Option.some.inj h; exact calm_withRender _ hn
            · obtain rfl := Option.some.inj h; exact calm_withRender _ hn
        · exact calm_advanceEmit hn h

theorem calm_advanceRestart (hb : storeOn s.portB.op = none) (h : advanceRestart p s = some t) : Calm s t := by
  unfold advanceRestart at h
  split at h
  · simp at h
  · split at h
    · simp at h
    · next hin => obtain rfl := Option.some.inj h; exact calm_restartEnds (replaceable_of hb (by simpa using hin))
  · split at h
    · obtain rfl := Option.some.inj h; exact (calm_pushOut _).trans (calm_modPort rfl)
    · simp at h

theorem calm_advance (hb : storeOn s.portB.op = none) (h : advance p s = some t) : Calm s t := by
  rcases advance_cases h with ⟨-, h⟩ | ⟨-, ⟨c, hc, hstore⟩ | ⟨c, hc, h⟩⟩
  · exact calm_advanceRestart hb h
  · cases p with
    | a => exact calm_advanceStore hc hstore
    | b => rw [show s.portB.op = .store c from hc] at hb; cases hb
  · exact calm_advanceRender (storeOn_of_renderCtx hc) h

/-! ## Notices, records, and the ends of waits -/

theorem calm_placeMark (h : placeMark p s = some t) : Calm s t := by
  unfold placeMark at h
  dsimp only at h
  split at h
  · simp at h
  · split at h
    · obtain rfl := Option.some.inj h; exact (calm_pushOut _).trans (calm_modPort rfl)
    · obtain rfl := Option.some.inj h; exact (calm_pushOut _).trans (calm_modPort rfl)
    · obtain rfl := Option.some.inj h; exact (calm_pushOut _).trans (calm_modPort rfl)
    · simp at h

theorem calm_placeMade (h : placeMade p s = some t) : Calm s t := by
  obtain ⟨r, k, store, -, hop, -, rfl⟩ := placeMade_some h
  exact (calm_pushOut _).trans (calm_endOp (.inl (by rw [pushOut_op, hop]; rfl)))

theorem calm_enterHeld (h : enterHeld p s = some t) : Calm s t := by
  unfold enterHeld at h
  split at h
  · simp at h
  · split at h
    · obtain rfl := Option.some.inj h; exact (calm_modPort rfl).trans (calm_enterRecord _)
    · simp at h

theorem calm_endWaitNow : Calm s (endWaitNow p s) := by
  unfold endWaitNow
  dsimp only
  split
  · next r k store hop =>
    cases hr : placeResponse p r (endWait p s) with
    | none => exact calm_endWait
    | some v => exact calm_endWait.trans (calm_placeResponse (.inl (by rw [hop]; rfl)) hr)
  · exact calm_endWait

theorem calm_carryWait : Calm s (carryWait p s) := by
  unfold carryWait
  split
  · next h => exact calm_setOp_of h rfl rfl
  · next h =>
    split
    · exact calm_setOp_of h rfl rfl
    · exact calm_setOp_of h rfl rfl
    · exact .refl s
  all_goals exact .refl s

theorem calm_flushedWait : Calm s (flushedWait p s) := by
  unfold flushedWait
  split
  · next h => exact calm_setOp_of h rfl rfl
  · next h =>
    split
    · exact calm_setOp_of h rfl rfl
    · exact calm_setOp_of h rfl rfl
    all_goals exact .refl s
  · exact .refl s

theorem calm_unflushedWait : Calm s (unflushedWait p s) := by
  unfold unflushedWait
  split
  · next h => exact calm_setOp_of h rfl rfl
  · next h =>
    split
    · exact calm_setOp_of h rfl rfl
    · exact calm_setOp_of h rfl rfl
    all_goals exact .refl s
  · exact .refl s

theorem calm_billingFlushTaken (done : Bool) : Calm s (billingFlushTaken done s) := by
  unfold billingFlushTaken
  split
  · exact calm_flushedWait.trans calm_flushedWait
  · exact calm_unflushedWait.trans (calm_unflushedWait.trans (.of_same rfl rfl rfl))

/-! ## The ends of reads and of write-backs -/

theorem calm_catalogueFlushTaken (g : Nat) (done : Bool) : Calm s (catalogueFlushTaken g done s) := by
  unfold catalogueFlushTaken
  split
  · exact .refl s
  · exact .of_same rfl rfl rfl

theorem calm_writebackTaken (n kept : Nat) (dropped done : Bool) : Calm s (writebackTaken n kept dropped done s) := by
  unfold writebackTaken
  split
  · exact .refl s
  · refine .trans ?_ (calm_joinRelocations n)
    refine Laid.calm ?_ rfl rfl rfl
    exact laid_slot n _ (by rfl) rfl rfl rfl rfl

theorem calm_storeReadTaken (i n : Nat) (d : Delivery) (hn : ¬ Storing s) : Calm s (storeReadTaken i n d s) := by
  unfold storeReadTaken
  split
  · next c hc =>
    split
    · split
      · exact calm_storeFaulted c hn
      · exact .refl s
    · refine (calm_masterDamage n d.result).trans (calm_modPort (p := .a) ?_)
      rw [masterDamage_port]
      exact (congrArg storeOn hc).symm
  · exact .refl s

theorem calm_renderReadTaken (n : Nat) (d : Delivery) : Calm s (renderReadTaken p n d s) := by
  unfold renderReadTaken
  split
  · exact .refl s
  · next c hc =>
    have hn := storeOn_of_renderCtx hc
    split
    · exact .refl s
    · split
      · exact .refl s
      · exact (calm_masterDamage n d.result).trans
          (calm_setOp (storeOn_withRender _ hn) (.inl (by rw [masterDamage_port]; exact hn)))

theorem calm_storeWriteTaken_failed (i n : Nat) (hn : ¬ Storing s) : Calm s (storeWriteTaken i n false s) := by
  unfold storeWriteTaken
  split
  · rw [if_neg (by simp)]
    split
    · exact calm_storeFaulted _ hn
    · exact .refl s
  · exact .refl s

theorem calm_scrubCatalogue (n : Nat) (r : ReadResult) : Calm s (scrubCatalogue n r s) := by
  unfold scrubCatalogue
  split
  · exact .refl s
  · exact .refl s
  · exact .refl s
  all_goals
    split
    · exact .of_same rfl rfl rfl
    · split
      · exact .of_same rfl rfl rfl
      · exact .refl s

theorem calm_spendRead (r : ReadEnd) : Calm s (spendRead r s) := by
  unfold spendRead
  split
  · split
    · exact .of_same rfl rfl rfl
    · exact .refl s
  · exact .refl s

theorem calm_contentAfter (b : Burst) (done : Bool) : Calm s (contentAfter b done s) := by
  unfold contentAfter
  split
  · exact .refl s
  · split <;> exact .of_same rfl rfl rfl

/-- A bank's state may change while the upkeep engine holds no copy. -/
theorem calm_raised (n : Nat) (st : BankState) : Calm s (raiseBank n .b (raiseBank n .a { s with banks := s.banks.set n st })) := by
  refine .trans (.trans ?_ (calm_raiseBank n)) (calm_raiseBank n)
  exact .of_same rfl rfl rfl

theorem dropIfOffline_of_none (h : s.upkeep.buffer = none) : dropIfOffline s = s := by rw [dropIfOffline, h]

theorem calm_setBank (n : Nat) (st : BankState) (h : s.upkeep.buffer = none) : Calm s (setBank n st s) := by
  by_cases hb : s.banks.getD n .online = st
  · rw [setBank_of_eq hb]
    exact .refl s
  · rw [setBank_of_ne hb]
    have hraised := calm_raised (s := s) n st
    split
    · rw [bankCrossed, dropIfOffline_of_none]
      · exact hraised.trans (calm_recountWhere _)
      · exact hraised.buffer.trans h
    · exact hraised

end Sys2Proof.Machine

end

section
/-!
PROOF. The laws of the slots (O21), third part: the commands that are calm, that is all but DEFINE_OBJECT and WITHDRAW_EDITION.
-/

namespace Sys2Proof.Machine

open Sys2Proof

variable {s t u : State} {p : Port} {tag : Tag}

theorem calm_addEdition {e : EditionRec} (h : e.objects = []) : Calm s (addEdition e s) := by
  refine Laid.calm ⟨fun hw => ⟨hw, fun _ => rfl⟩, rfl, fun q hq => ?_, rfl⟩ rfl rfl rfl
  rcases Assoc.mem_insertBy.mp hq with rfl | hq
  · exact .inl (by rw [objectNumbers, h]; rfl)
  · exact .inr ⟨q, hq, rfl, rfl⟩

theorem calm_freeCount (n : Nat) : Calm s { s with freeCount := n } := .of_same rfl rfl rfl

theorem calm_locks (l : List (Option LockEntry)) : Calm s { s with locks := l } := .of_same rfl rfl rfl

theorem calm_modCurves (n : Nat) (f : CurveSet → CurveSet) : Calm s (modCurves n f s) := .of_same rfl rfl rfl

theorem calm_editionMarked {k : EditionKey} {f : EditionRec → EditionRec} {g : Nat} (hk : ∀ e, (f e).key = e.key)
    (hn : ∀ e, objectNumbers (f e) = objectNumbers e) : Calm s (markDirty g (s.modEdition k f)) :=
  ((laid_modEdition hk hn).trans (laid_markDirty g)).calm rfl rfl rfl

section
variable (hop : (s.port p).op = .idle)
include hop

theorem releaseHeld_op {k : EditionKey} : ((releaseHeld k s).port p).op = .idle := by
  rw [releaseHeld_frame]
  exact hop

theorem refillDamage_op : ((refillDamage s).port p).op = .idle := by
  rw [refillDamage_frame]
  exact hop

theorem calm_startRender (set : Nat) {o : Op} (h : storeOn o = none) : Calm s (startRender p set o s) :=
  calm_modPort_replaced h (.inl (by rw [hop]; rfl))

theorem calm_acceptOrder (o : ObjectRec) (e : EditionRec) (entry : JournalEntry) : Calm s (acceptOrder p tag o e entry s) := by
  unfold acceptOrder startRender
  refine .trans ?_ (calm_modPort_replaced rfl (.inl ?_))
  · exact .of_same rfl rfl rfl
  · exact congrArg storeOn hop

/-- A store may start on Port A, which had no operation. -/
theorem calm_startStore (hp : OpenTo.admits .onlyA p = true) (c : StoreCtx) : Calm s (s.setOp p (.store c)) := by
  cases p with
  | a =>
    refine .of_core rfl (fun _ n hn => ?_) id
    rw [show s.portA.op = .idle from hop] at hn
    cases hn
  | b => cases hp

/-- A command is calm where its run is, once it is admitted. -/
theorem calm_whenAdmitted {o : OpenTo} {run : State} (h : o.admits p = true → Calm s run) : Calm s (whenAdmitted o p tag s run) := by
  unfold whenAdmitted
  split
  · exact calm_answer _ hop
  · split
    · next ho => exact h ho
    · exact calm_answer _ hop

theorem calm_openEditionRun (key era resale : Word) : Calm s (openEditionRun p tag key era resale s) := by
  refine calm_whenAdmitted hop fun _ => ?_
  split
  · exact calm_answer _ hop
  · split
    · exact calm_answer _ hop
    · split
      · exact calm_answer _ hop
      · split
        · exact calm_answer _ hop
        · exact (calm_addEdition rfl).trans (calm_answer _ hop)

theorem calm_closeEditionRun (key : Word) : Calm s (closeEditionRun p tag key s) := by
  refine calm_whenAdmitted hop fun _ => ?_
  split
  · exact calm_answer _ hop
  · split
    · exact calm_answer _ hop
    · split
      · exact calm_answer _ hop
      · split
        · exact (calm_freeCount _).trans (calm_answer _ hop)
        · split
          · exact calm_answer _ hop
          · exact (calm_editionMarked (by intro; rfl) (by intro; rfl)).trans (calm_answer _ hop)

theorem calm_amendEditionRun (key era resale : Word) : Calm s (amendEditionRun p tag key era resale s) := by
  refine calm_whenAdmitted hop fun _ => ?_
  split
  · exact calm_answer _ hop
  · split
    · exact calm_answer _ hop
    · split
      · exact calm_answer _ hop
      · split
        · exact calm_answer _ hop
        · exact (calm_editionMarked (by intro; rfl) (by intro; rfl)).trans (calm_answer _ hop)

theorem calm_readEditionRun (key : Word) : Calm s (readEditionRun p tag key s) := by
  refine calm_whenAdmitted hop fun _ => ?_
  split
  · exact calm_answer _ hop
  · split
    · exact calm_answer _ hop
    · split
      · exact calm_answer _ hop
      · exact calm_answer _ hop

theorem calm_readObjectRun (object selection : Word) : Calm s (readObjectRun p tag object selection s) := by
  refine calm_whenAdmitted hop fun _ => ?_
  split
  · exact calm_answer _ hop
  · split
    · exact calm_answer _ hop
    · split
      · exact calm_answer _ hop
      · exact calm_answer _ hop

theorem calm_listEditionsRun (start : Word) : Calm s (listEditionsRun p tag start s) := by
  refine calm_whenAdmitted hop fun _ => ?_
  split
  · exact calm_answer _ hop
  · exact calm_answer _ hop

theorem calm_putWindowRun (object x0 x1 y0 y1 axis mirror packing : Word) :
    Calm s (putWindowRun p tag object x0 x1 y0 y1 axis mirror packing s) := by
  refine calm_whenAdmitted hop fun hp => ?_
  split
  · split
    · exact calm_answer _ hop
    · split
      · exact calm_answer _ hop
      · split
        · exact calm_answer _ hop
        · split
          · exact calm_answer _ hop
          · split
            · exact calm_answer _ hop
            · exact calm_startStore hop hp _
  · exact calm_answer _ hop

theorem calm_serviceBankRun (bank : Word) : Calm s (serviceBankRun p tag bank s) := by
  refine calm_whenAdmitted hop fun _ => ?_
  split
  · exact calm_answer _ hop
  · exact calm_setOp_of hop rfl rfl

theorem calm_lockEditionRun (key : Word) : Calm s (lockEditionRun p tag key s) := by
  refine calm_whenAdmitted hop fun _ => ?_
  dsimp only
  split
  · exact calm_answer _ hop
  · split
    · exact calm_answer _ hop
    · split
      · exact calm_answer _ hop
      · split
        · exact calm_answer _ hop
        · split
          · exact calm_answer _ hop
          · split
            · exact (calm_locks _).trans (calm_setOp_of hop rfl rfl)
            · exact (calm_locks _).trans (calm_answer _ hop)

theorem calm_unlockEditionRun (key : Word) : Calm s (unlockEditionRun p tag key s) := by
  refine calm_whenAdmitted hop fun _ => ?_
  dsimp only
  split
  · exact calm_answer _ hop
  · split
    · exact calm_answer _ hop
    · split
      · exact calm_answer _ hop
      · exact (calm_releaseHeld _).trans (calm_answer _ (releaseHeld_op hop))

theorem calm_scrubStrobeRun : Calm s (scrubStrobeRun p tag s) := by
  have hdue (timer : Nat) : Calm s { s with upkeep := { s.upkeep with due := true, timer := timer } } :=
    .of_same rfl rfl rfl
  refine calm_whenAdmitted hop fun _ => ?_
  split
  · exact calm_answer _ hop
  · split
    · exact calm_answer _ hop
    · exact (hdue 0).trans (calm_answer _ hop)
  · split
    · exact calm_answer _ hop
    · exact (hdue _).trans (calm_answer _ hop)

theorem calm_scrubBurstRun (count : Word) : Calm s (scrubBurstRun p tag count s) := by
  refine calm_whenAdmitted hop fun _ => ?_
  split
  · exact calm_answer _ hop
  · split
    · exact calm_answer _ hop
    · refine .trans ?_ (calm_answer _ hop)
      exact .of_same rfl rfl rfl

theorem calm_takeDamageRun : Calm s (takeDamageRun p tag s) := by
  refine calm_whenAdmitted hop fun _ => ?_
  split
  · exact calm_answer _ hop
  · next d rest _ =>
    have hrest : Calm s { s with damage := rest } := .of_same rfl rfl rfl
    exact hrest.trans (calm_refillDamage.trans (calm_answer _ (refillDamage_op hop)))

theorem calm_writeCurveRun (set polarity : Word) (knots : List Word) (lift : Word) :
    Calm s (writeCurveRun p tag set polarity knots lift s) := by
  refine calm_whenAdmitted hop fun _ => ?_
  split
  · exact calm_answer _ hop
  · split
    · exact calm_answer _ hop
    · exact (calm_modCurves _ _).trans (calm_answer _ hop)

theorem calm_writeFillRun (set level : Word) : Calm s (writeFillRun p tag set level s) := by
  refine calm_whenAdmitted hop fun _ => ?_
  split
  · exact calm_answer _ hop
  · exact (calm_modCurves _ _).trans (calm_answer _ hop)

theorem calm_readCurveRun (set : Word) : Calm s (readCurveRun p tag set s) := by
  refine calm_whenAdmitted hop fun _ => ?_
  split
  · exact calm_answer _ hop
  · exact calm_answer _ hop

theorem calm_renderRun (object x0 x1 y0 y1 scale curve : Word) :
    Calm s (renderRun p tag object x0 x1 y0 y1 scale curve s) := by
  refine calm_whenAdmitted hop fun _ => ?_
  dsimp only
  split
  · exact calm_answer _ hop
  · split
    · exact calm_answer _ hop
    · split
      · exact calm_answer _ hop
      · split
        · exact calm_answer _ hop
        · split
          · exact calm_answer _ hop
          · split
            · exact calm_answer _ hop
            · exact calm_startRender hop _ rfl

theorem calm_changeAccount (account : Word) (allowed : AccountState → Bool) (r : Account → Response) (f : Account → Account) :
    Calm s (changeAccount p tag account allowed r f s) := by
  unfold changeAccount
  dsimp only
  split
  · exact calm_answer _ hop
  · split
    · exact calm_answer _ hop
    · split
      · exact calm_answer _ hop
      · refine .trans ?_ (calm_setOp_of hop rfl rfl)
        exact .of_same rfl rfl rfl

theorem calm_setDiscountRun (account discount : Word) : Calm s (setDiscountRun p tag account discount s) := by
  refine calm_whenAdmitted hop fun _ => ?_
  split
  · exact calm_answer _ hop
  · exact calm_changeAccount hop _ _ _ _

theorem calm_readTallyRun (account : Word) : Calm s (readTallyRun p tag account s) := by
  refine calm_whenAdmitted hop fun _ => ?_
  split
  · exact calm_answer _ hop
  · exact calm_answer _ hop

theorem calm_writeScheduleRun (item index value : Word) : Calm s (writeScheduleRun p tag item index value s) := by
  refine calm_whenAdmitted hop fun _ => ?_
  split
  · exact calm_answer _ hop
  · split
    · exact calm_answer _ hop
    · split
      · exact calm_answer _ hop
      · refine .trans ?_ (calm_answer _ hop)
        exact .of_same rfl rfl rfl

theorem calm_setYearRun (year : Word) : Calm s (setYearRun p tag year s) := by
  refine calm_whenAdmitted hop fun _ => ?_
  split
  · exact calm_answer _ hop
  · dsimp only
    split
    · exact calm_answer _ hop
    · split
      · exact calm_answer _ hop
      · refine .trans ?_ (calm_setOp_of hop rfl rfl)
        exact .of_same rfl rfl rfl

theorem calm_orderReprintRun (object sizeClass rightsClass quantity account : Word) :
    Calm s (orderReprintRun p tag object sizeClass rightsClass quantity account s) := by
  unfold orderReprintRun
  split
  · exact calm_answer _ hop
  · split
    · exact calm_answer _ hop
    · split
      · exact calm_answer _ hop
      · split
        · exact calm_answer _ hop
        · split
          · exact calm_answer _ hop
          · split
            · exact calm_answer _ hop
            · split
              · exact calm_answer _ hop
              · split
                · exact calm_answer _ hop
                · split
                  · exact calm_answer _ hop
                  · split
                    · exact calm_answer _ hop
                    · split
                      · exact calm_answer _ hop
                      · split
                        · exact calm_answer _ hop
                        · exact calm_acceptOrder hop _ _ _

theorem calm_takeChargeRun : Calm s (takeChargeRun p tag s) := by
  refine calm_whenAdmitted hop fun _ => ?_
  split
  · exact calm_answer _ hop
  · split
    · exact calm_answer _ hop
    · split
      · exact calm_answer _ hop
      · exact .trans (t := { s with journal := _, billingPending := true }) (.of_same rfl rfl rfl) (calm_setOp_of hop rfl rfl)

end

end Sys2Proof.Machine

end

section
/-!
PROOF. The laws of the slots (O21), fourth part: a slot taken from the pool or given back, the start of a burst, and the entry of a device
state.
-/

namespace Sys2Proof.Machine

open Sys2Proof

variable {s t u : State} {p : Port} {b : Burst}

/-! ## Slots that no tile names -/

/-- The tables' laws hold on where the tiles' slots and the lists stand, and the pool is sound. -/
theorem Tables.slots (h : Tables s) (ho : t.objects = s.objects) (he : t.editions = s.editions)
    (hslot : ∀ n object index, (s.slot n).state = .assigned → (s.slot n).owner = .tile object index →
      slotPlace (t.slot n) = slotPlace (s.slot n))
    (honce : t.pool.Nodup) (hfree : ∀ n ∈ t.pool, 512 ≤ n ∧ (t.slot n).state = .free) : Tables t := by
  refine ⟨fun o hmem i m hm => ?_, fun o hmem => ?_, honce, hfree, fun e hmem => ?_, fun e hmem r hr => ?_⟩
  · obtain ⟨hst, how, hwr⟩ := h.owned o (ho ▸ hmem) i m hm
    have hp := hslot m.slot o.number i hst how
    exact ⟨(congrArg (·.1) hp).trans hst, (congrArg (·.2.1) hp).trans how, (congrArg (·.2.2) hp).trans hwr⟩
  · exact h.tileSlots o (ho ▸ hmem)
  · exact h.listedOnce e (he ▸ hmem)
  · rw [State.findObject, ho]
    exact h.listed e (he ▸ hmem) r hr

theorem not_mem_pool_of_assigned {n : Nat} (h : Tables s) (hn : (s.slot n).state = .assigned) : n ∉ s.pool := fun hmem => by
  rw [(h.poolFree n hmem).2] at hn
  cases hn

/-- A relocation's target goes back to the pool. -/
theorem Tables.returnTarget {old target : Nat} (h : Tables s) (hw : Assoc.wf slotDefault s.slots = true) (ht : TargetOf s old target) :
    Tables (returnTarget target s) := by
  obtain ⟨h512, hst, how⟩ := ht
  have hout := not_mem_pool_of_assigned h hst
  have hother {n : Nat} (hn : n ≠ target) : (Machine.returnTarget target s).slot n = s.slot n := slot_setSlot_other s _ hn
  have hsame : (Machine.returnTarget target s).slot target = { s.slot target with state := .free, owner := .none, written := false } :=
    slot_setSlot_same s target _ hw
  refine h.slots rfl rfl (fun n object index _ hno => ?_) ?_ fun n hn => ?_
  · rw [hother]
    rintro rfl
    rw [how] at hno
    cases hno
  · exact List.nodup_append.mpr ⟨h.poolOnce, List.nodup_singleton _, fun a ha b hb => by
      rw [List.mem_singleton.mp hb]
      exact ne_of_mem_of_not_mem ha hout⟩
  · rcases List.mem_append.mp hn with hn | hn
    · rw [hother (ne_of_mem_of_not_mem hn hout)]
      exact h.poolFree n hn
    · obtain rfl := List.mem_singleton.mp hn
      rw [hsame]
      exact ⟨h512, rfl⟩

/-- The form of the tables needs no law. -/
theorem formed_of_slots (h : Formed s) (ho : t.objects = s.objects) (hw : Assoc.wf slotDefault t.slots = true) : Formed t :=
  ⟨ho ▸ h.numbersRise, hw⟩

theorem formed_returnTarget (n : Nat) (h : Formed s) : Formed (returnTarget n s) := formed_of_slots h rfl (wf_setSlot s n _ h.tableForm)

/-! ## Changes of a sound state -/

/-- The laws of the slots hold in READY, FLUSHING and HALTED. -/
def Active (s : State) : Prop := s.device ≠ .preparing ∧ s.device ≠ .faulted

theorem SlotsSound.lawOf (hs : SlotsSound s) (h : Active s) : SlotLaw s := hs.law h.1 h.2

/-- A change that keeps the form and the laws, brings no burst, and brings no copy in PREPARING, keeps the slots sound. -/
theorem SlotsSound.change (hs : SlotsSound s) (hf : Formed t) (hB : t.portB.op = s.portB.op) (hd : t.device = s.device)
    (hr : t.resetAsserted = s.resetAsserted) (hburst : ∀ b, t.burst = some b → s.burst = some b)
    (hbuf : s.device = .preparing → s.upkeep.buffer = none → t.upkeep.buffer = none) (hlaw : Active s → SlotLaw s → SlotLaw t) :
    SlotsSound t := by
  refine ⟨hf.numbersRise, hf.tableForm, hB ▸ hs.noStoreOnB, fun h => ?_, fun b hb hp => ?_, fun h => ?_, fun h1 h2 => ?_⟩
  · rw [hd] at h
    exact hbuf h (hs.preparingBuffer h)
  · rw [hd]
    exact hs.preparingBurst b (hburst b hb) hp
  · rw [hr] at h
    obtain ⟨h1, h2⟩ := hs.inReset h
    exact ⟨hd.trans h1, fun b hb => h2 b (hburst b hb)⟩
  · rw [hd] at h1 h2
    exact hlaw ⟨h1, h2⟩ (hs.law h1 h2)

/-- With no burst in flight the laws speak of the tables and the copy alone. -/
theorem Tables.idleLaw (h : Tables s) (hb : s.burst = none)
    (hc : ∀ c target, s.upkeep.buffer = some c → c.purpose = .relocation target → TargetOf s c.slot target) : SlotLaw s := by
  refine h.law ⟨hc, ?_, ?_, ?_⟩ <;> intro b <;> intros <;> simp_all

/-- No write of a relocation's copy is in flight. -/
def NoCopyWrite (s : State) : Prop := ∀ b old dropped, s.burst = some b → b.work ≠ .relocationWrite old dropped

theorem noCopyWrite_of_none (h : s.burst = none) : NoCopyWrite s := fun b _ _ hb => by rw [h] at hb; cases hb

theorem dropCopy_eq {c : Copy} (hc : s.upkeep.buffer = some c) : dropCopy s =
    (match c.purpose with
    | .writeback _ => { s with upkeep := { s.upkeep with buffer := none } }
    | .relocation target => returnTarget target { s with upkeep := { s.upkeep with buffer := none } }) := by
  cases hp : c.purpose <;> simp only [dropCopy, hc, hp]

theorem sound_dropCopy (hs : SlotsSound s) (hn : NoCopyWrite s) : SlotsSound (dropCopy s) := by
  cases hc : s.upkeep.buffer with
  | none => rwa [dropCopy_of_none hc]
  | some c =>
    have hnone : (dropCopy s).upkeep.buffer = none := dropCopy_buffer s
    have hframe := dropCopy_frame s
    have htables (hl : SlotLaw s) : Tables (dropCopy s) := by
      rw [dropCopy_eq hc]
      split
      · exact hl.tables.of_laid hs.tableForm (.of_same rfl rfl rfl rfl)
      · next target ht =>
        exact (hl.tables.of_laid hs.tableForm (t := { s with upkeep := { s.upkeep with buffer := none } }) (.of_same rfl rfl rfl rfl)).returnTarget
          hs.tableForm (hl.copyTarget c target hc ht)
    generalize hd : dropCopy s = t at *
    have hburst : t.burst = s.burst := by rw [hframe]
    have hobj : t.objects = s.objects := by rw [hframe]
    refine hs.change (formed_of_slots hs.formed hobj (hd ▸ wf_dropCopy hs.tableForm)) (by rw [hframe]) (by rw [hframe]) (by rw [hframe])
      (fun b hb => hburst ▸ hb) (fun _ _ => hnone) fun _ hl => (htables hl).law ⟨?_, ?_, ?_, ?_⟩
    · intro c' target hc'
      rw [hnone] at hc'
      cases hc'
    · intro b target g dropped noCopy hb hwk
      have hbuf := (hl.readTarget b target g dropped noCopy (hburst ▸ hb) hwk).1
      rw [hc] at hbuf
      cases hbuf
    · intro b old dropped hb hwk
      exact absurd hwk (hn b old dropped (hburst ▸ hb))
    · intro b i hb hwk
      obtain ⟨c', hc', hslot⟩ := hl.storeSlot b i (hburst ▸ hb) hwk
      refine ⟨c', by rw [hframe]; exact hc', ?_⟩
      rw [← hslot]
      simp only [tileSlot, State.findObject, hobj]

theorem sound_dropIfOffline (hs : SlotsSound s) (hn : NoCopyWrite s) : SlotsSound (dropIfOffline s) := by
  unfold dropIfOffline
  split
  · exact hs
  · split
    · exact sound_dropCopy hs hn
    · exact hs

theorem sound_setBank (hs : SlotsSound s) (hb : s.burst = none) (n : Nat) (st : BankState) : SlotsSound (setBank n st s) := by
  by_cases heq : s.banks.getD n .online = st
  · rwa [setBank_of_eq heq]
  · rw [setBank_of_ne heq]
    have hraised := calm_raised (s := s) n st
    split
    · have hcounted := hraised.trans (calm_recountWhere fun o => o.tileMap.any fun m => bankOf m.slot == n)
      exact sound_dropIfOffline (hcounted.sound hs) (noCopyWrite_of_none (hcounted.burst.trans hb))
    · exact hraised.sound hs

/-! ## The start of a burst -/

/-- Work of which the laws of the slots say nothing. -/
def BurstWork.plain : BurstWork → Bool
  | .storeRead _ => true
  | .renderRead _ => true
  | .probe => true
  | .scrub _ _ => true
  | .writeback _ _ => true
  | .catalogueFlush => true
  | .billingFlush => true
  | _ => false

/-- A burst may be in flight of which the laws of the slots hold. -/
theorem SlotsSound.withBurst (hs : SlotsSound s) (b : Burst) (hprep : BurstWork.preparing b.work = true → s.device = .preparing)
    (hreset : s.resetAsserted = true → ∃ suspect, b.work = .carried suspect)
    (hread : ∀ target g dropped noCopy, b.work = .relocationRead target g dropped noCopy → Active s →
      s.upkeep.buffer = none ∧ TargetOf s b.slot target)
    (hwrite : ∀ old dropped, b.work = .relocationWrite old dropped → Active s →
      TargetOf s old b.slot ∧ ∀ c, s.upkeep.buffer = some c → c.purpose = .relocation b.slot)
    (hstore : ∀ i, b.work = .storeWrite i → Active s → ∃ c, s.portA.op = .store c ∧ tileSlot s c.object i = b.slot) :
    SlotsSound { s with burst := some b } := by
  refine ⟨hs.numbersRise, hs.tableForm, hs.noStoreOnB, hs.preparingBuffer, fun c hc hp => ?_, fun h => ⟨(hs.inReset h).1, fun c hc => ?_⟩,
    fun h1 h2 => ?_⟩
  · obtain rfl := Option.some.inj hc
    exact hprep hp
  · obtain rfl := Option.some.inj hc
    exact hreset h
  · have hl := hs.law h1 h2
    have ht := hl.tables.of_laid hs.tableForm (t := { s with burst := some b }) (.of_same rfl rfl rfl rfl)
    refine ht.law ⟨hl.copyTarget, fun c target g dropped noCopy hc hw => ?_, fun c old dropped hc hw => ?_, fun c i hc hw => ?_⟩
    · obtain rfl := Option.some.inj hc
      exact hread target g dropped noCopy hw ⟨h1, h2⟩
    · obtain rfl := Option.some.inj hc
      exact hwrite old dropped hw ⟨h1, h2⟩
    · obtain rfl := Option.some.inj hc
      exact hstore i hw ⟨h1, h2⟩

theorem not_preparing_of_plain {w : BurstWork} (h : w.plain = true) : BurstWork.preparing w = false := by
  cases w <;> first | rfl | cases h

theorem sound_startPlain {w : BurstWork} (hs : SlotsSound s) (hr : s.resetAsserted = false) (hw : w.plain = true) (n : Nat)
    (content : Option SlotContent) : SlotsSound (startBurst w n content s) := by
  refine hs.withBurst ⟨w, n, false, 0, content⟩ ?_ (fun h => by rw [hr] at h; cases h) ?_ ?_ ?_ <;> dsimp only
  · intro hp
    rw [not_preparing_of_plain hw] at hp
    cases hp
  all_goals
    intros
    subst_vars
    cases hw

theorem calm_granted (r : Requester) : Calm s (granted r s) := .of_same rfl rfl rfl

theorem calm_noteBurst (k : UpkeepBurst) : Calm s (noteBurst k s) := .of_same rfl rfl rfl

theorem sound_startBillingFlush (hs : SlotsSound s) (hr : s.resetAsserted = false) : SlotsSound (startBillingFlush s) := by
  have hcalm : Calm s (noteBurst .billingFlush (startWrite 1 (carryWait .b (carryWait .a { s with billingPending := false })))) :=
    .trans (t := { s with billingPending := false }) (.of_same rfl rfl rfl)
      (calm_carryWait.trans (calm_carryWait.trans ((calm_startWrite 1).trans (calm_noteBurst _))))
  exact sound_startPlain (hcalm.sound hs) (hcalm.reset.trans hr) rfl 1 _

theorem sound_startCatalogueFlush (hs : SlotsSound s) (hr : s.resetAsserted = false) (g : Nat) : SlotsSound (startCatalogueFlush g s) := by
  have hcalm : Calm s (noteBurst .catalogueFlush (startWrite g { s with dirty := s.dirty.filter (· != g) })) :=
    .trans (t := { s with dirty := s.dirty.filter (· != g) }) (.of_same rfl rfl rfl)
      ((calm_startWrite g).trans (calm_noteBurst _))
  have hlast : Calm s { noteBurst .catalogueFlush (startWrite g { s with dirty := s.dirty.filter (· != g) }) with
      upkeep := { (noteBurst .catalogueFlush (startWrite g { s with dirty := s.dirty.filter (· != g) })).upkeep with lastGroup := some g } } :=
    hcalm.trans (.of_same rfl rfl rfl)
  exact sound_startPlain (hlast.sound hs) (hlast.reset.trans hr) rfl g _

theorem sound_startScrub (hs : SlotsSound s) (hr : s.resetAsserted = false) (n : Nat) : SlotsSound (startScrub n s) := by
  have hcalm : Calm s { s with upkeep := { s.upkeep with
      burstCount := s.upkeep.burstCount - 1, due := false, lastBurst := some .scrubVisit, cursor := cursorAfter s n } } := .of_same rfl rfl rfl
  exact sound_startPlain (hcalm.sound hs) hr rfl n none

/-- The slot taken stands in the pool, and the rest is the pool without it. -/
theorem takeUsable_perm {l rest : List Nat} {n : Nat} (h : takeUsable s l = some (n, rest)) : l.Perm (n :: rest) := by
  induction l generalizing rest with
  | nil => cases h
  | cons m l ih =>
    unfold takeUsable at h
    split at h
    · split at h
      · cases h
      · next k rest' hk =>
        simp only [Option.some.injEq, Prod.mk.injEq] at h
        obtain ⟨rfl, rfl⟩ := h
        exact ((ih hk).cons m).trans (.swap ..)
    · simp only [Option.some.injEq, Prod.mk.injEq] at h
      obtain ⟨rfl, rfl⟩ := h
      exact .refl _

/-- The target of a relocation is taken from the pool (R94). -/
theorem sound_startRelocation (hs : SlotsSound s) (hr : s.resetAsserted = false) (hb : s.burst = none)
    (hbuf : s.upkeep.buffer = none) (old : Nat) : SlotsSound (startRelocation old s) := by
  unfold startRelocation
  split
  · exact hs
  · next target rest htake =>
    have hperm := takeUsable_perm htake
    have htaken : SlotsSound { s.setSlot target { s.slot target with state := .assigned, owner := .relocation old, written := false } with
        pool := rest } := by
      refine hs.change (formed_of_slots hs.formed rfl (wf_setSlot s target _ hs.tableForm)) rfl rfl rfl (fun _ => id) (fun _ _ => hbuf)
        fun _ hl => Tables.idleLaw ?_ hb fun c _ hc => ?_
      · have hfree := (hl.poolFree target (hperm.mem_iff.mpr List.mem_cons_self)).2
        obtain ⟨hnot, honce⟩ := List.nodup_cons.mp (hperm.nodup_iff.mp hl.poolOnce)
        refine hl.tables.slots rfl rfl (fun n object index hst _ => ?_) honce fun n hn => ?_
        · have hne : n ≠ target := fun h => by rw [h, hfree] at hst; cases hst
          exact congrArg slotPlace (slot_setSlot_other s _ hne)
        · obtain ⟨h512, hnfree⟩ := hl.poolFree n (hperm.mem_iff.mpr (List.mem_cons_of_mem _ hn))
          exact ⟨h512, (congrArg SlotEntry.state (slot_setSlot_other s _ (ne_of_mem_of_not_mem hn hnot))).trans hnfree⟩
      · exact absurd (hbuf.symm.trans hc) nofun
    have hnoted := (calm_noteBurst (s := { s.setSlot target { s.slot target with
      state := .assigned, owner := .relocation old, written := false } with pool := rest }) .relocationRead).sound htaken
    refine hnoted.withBurst ⟨_, old, false, 0, none⟩ nofun (fun h => ?_) (fun target' g dropped noCopy hw ha => ?_) nofun nofun
    · rw [show s.resetAsserted = true from h] at hr
      cases hr
    · obtain ⟨rfl, -⟩ : target = target' ∧ _ := by simpa using hw
      obtain ⟨h512, -⟩ := (hs.lawOf ha).poolFree target (hperm.mem_iff.mpr List.mem_cons_self)
      have hslot := slot_setSlot_same s target { s.slot target with state := .assigned, owner := .relocation old, written := false } hs.tableForm
      exact ⟨hbuf, h512, congrArg SlotEntry.state hslot, congrArg SlotEntry.owner hslot⟩

end Sys2Proof.Machine

end

section
/-!
PROOF. The laws of the slots (O21), fifth part: grants, preparation's bursts, and the device states.
-/

namespace Sys2Proof.Machine

open Sys2Proof

variable {s t u : State} {p : Port} {b : Burst}

/-! ## The upkeep engine's grant -/

theorem sound_startCopy (hs : SlotsSound s) (hr : s.resetAsserted = false) {c : Copy} (hc : s.upkeep.buffer = some c) :
    SlotsSound (startCopy c s) := by
  unfold startCopy
  dsimp only
  split
  · next kept hk =>
    have hcalm : Calm s (noteBurst .writeback (startWrite c.slot s)) := (calm_startWrite _).trans (calm_noteBurst _)
    exact sound_startPlain (hcalm.sound hs) (hcalm.reset.trans hr) rfl _ _
  · next target ht =>
    have hcalm : Calm s (noteBurst .relocationWrite (startWrite target s)) := (calm_startWrite _).trans (calm_noteBurst _)
    have hbuf := hcalm.buffer.trans hc
    have hnoted := hcalm.sound hs
    refine hnoted.withBurst ⟨.relocationWrite c.slot false, target, false, 0, _⟩ nofun (fun h => ?_) nofun (fun old dropped hw ha => ?_) nofun
    · rw [hcalm.reset.trans hr] at h
      cases h
    · obtain ⟨rfl, -⟩ : c.slot = old ∧ false = dropped := by simpa using hw
      refine ⟨(hnoted.lawOf ha).copyTarget c target hbuf ht, fun c' hc' => ?_⟩
      obtain rfl := Option.some.inj (hbuf.symm.trans hc')
      exact ht

/-- Work of R83 items 1 and 3 to 5, a relocation with the tile buffer empty. -/
theorem sound_startWork (hs : SlotsSound s) (hr : s.resetAsserted = false) (hb : s.burst = none) {w : UpkeepWork}
    (hcopy : ∀ c, w = .copy c → s.upkeep.buffer = some c) (hrel : ∀ old, w = .relocate old → s.upkeep.buffer = none) :
    SlotsSound (startWork w s) := by
  cases w with
  | billing => exact sound_startBillingFlush hs hr
  | copy c => exact sound_startCopy hs hr (hcopy c rfl)
  | relocate old => exact sound_startRelocation hs hr hb (hrel old rfl) old
  | flush g => exact sound_startCatalogueFlush hs hr g
  | scrub n => exact sound_startScrub hs hr n

theorem restOfWork_no_copy {w : UpkeepWork} (h : restOfWork s = some w) (c : Copy) : w ≠ .copy c := by
  rintro rfl
  unfold restOfWork at h
  split at h
  · cases h
  · split at h
    · split at h <;> cases h
    all_goals cases h

/-- A relocation is chosen only with the tile buffer empty. -/
theorem buffer_of_chooseWork_relocate {old : Nat} (h : chooseWork s = some (.relocate old)) : s.upkeep.buffer = none := by
  unfold chooseWork at h
  split at h
  · split at h
    · cases h
    · split at h
      · cases h
      · next hc => exact hc
  · split at h
    · cases h
    · obtain ⟨g, -, hg⟩ := Option.map_eq_some_iff.mp h
      cases hg
  all_goals cases h

theorem sound_startUpkeep (hs : SlotsSound s) (hr : s.resetAsserted = false) (hb : s.burst = none) : SlotsSound (startUpkeep s) := by
  unfold startUpkeep
  split
  · exact hs
  · next c hc =>
    split
    · exact sound_startCopy hs hr (buffer_of_chooseWork hc)
    · have hd := sound_dropCopy hs (noCopyWrite_of_none hb)
      dsimp only
      split
      · exact hd
      · next w hw =>
        refine sound_startWork hd ?_ ?_ (fun c' h => absurd h (restOfWork_no_copy hw c')) fun _ _ => dropCopy_buffer s
        · rw [dropCopy_frame]; exact hr
        · rw [dropCopy_frame]; exact hb
  · next w hne hw =>
    refine sound_startWork hs hr hb (fun c h => ?_) fun old h => ?_
    · subst h
      exact absurd rfl (hne c)
    · subst h
      exact buffer_of_chooseWork_relocate hw

/-! ## A port's grant -/

/-- What the start of a store's write does before its burst: its slot, a copy of it, and its edition's mark. -/
theorem sound_storeWriteStart (hs : SlotsSound s) (hb : s.burst = none) (object n : Nat) : SlotsSound (storeWriteStart object n s) := by
  have hwrite := (calm_startWrite (s := s) n).sound hs
  have hwb : (startWrite n s).burst = none := by rw [startWrite_frame]; exact hb
  have hcopy : SlotsSound (match (startWrite n s).upkeep.buffer with
      | some copy => if copy.slot = n then dropCopy (startWrite n s) else startWrite n s
      | none => startWrite n s) := by
    split
    · split
      · exact sound_dropCopy hwrite (noCopyWrite_of_none hwb)
      · exact hwrite
    · exact hwrite
  have hmark (w : State) : Calm w (match w.findObject object with
      | none => w
      | some o => w.modEdition o.key fun e => { e with writtenUnderLock := e.writtenUnderLock || e.state == .closed }) := by
    split
    · exact .refl w
    · exact (laid_modEdition (by intro; rfl) (by intro; rfl)).calm rfl rfl rfl
  exact (hmark _).sound hcopy

/-- The start of a store's write touches neither the objects nor the operations. -/
theorem storeWriteStart_same (object n : Nat) (s : State) : (storeWriteStart object n s).objects = s.objects ∧
    (storeWriteStart object n s).portA = s.portA ∧ (storeWriteStart object n s).resetAsserted = s.resetAsserted := by
  have hcopy : ∀ w : State, w.objects = s.objects ∧ w.portA = s.portA ∧ w.resetAsserted = s.resetAsserted →
      (match w.upkeep.buffer with
      | some copy => if copy.slot = n then dropCopy w else w
      | none => w).objects = s.objects ∧ (match w.upkeep.buffer with
      | some copy => if copy.slot = n then dropCopy w else w
      | none => w).portA = s.portA ∧ (match w.upkeep.buffer with
      | some copy => if copy.slot = n then dropCopy w else w
      | none => w).resetAsserted = s.resetAsserted := by
    intro w hw
    split
    · split
      · rw [dropCopy_frame]; exact hw
      · exact hw
    · exact hw
  have h := hcopy (startWrite n s) (by rw [startWrite_frame]; exact ⟨rfl, rfl, rfl⟩)
  unfold storeWriteStart
  dsimp only
  split <;> exact h

theorem tileSlot_congr (h : t.objects = s.objects) (object index : Nat) : tileSlot t object index = tileSlot s object index := by
  simp only [tileSlot, State.findObject, h]

theorem sound_startStoreWrite (hs : SlotsSound s) (hr : s.resetAsserted = false) (hb : s.burst = none) {c : StoreCtx}
    (hc : s.portA.op = .store c) (i : Nat) (content : Option SlotContent) :
    SlotsSound (startBurst (.storeWrite i) (tileSlot s c.object i) content
      (granted (.port .a) (storeWriteStart c.object (tileSlot s c.object i) s))) := by
  obtain ⟨hobj, hport, hreset⟩ := storeWriteStart_same c.object (tileSlot s c.object i) s
  have hstart := (calm_granted (.port .a)).sound (sound_storeWriteStart hs hb c.object (tileSlot s c.object i))
  refine hstart.withBurst ⟨.storeWrite i, tileSlot s c.object i, false, 0, content⟩ nofun (fun h => ?_) nofun nofun fun j hj _ => ?_
  · rw [show (storeWriteStart c.object (tileSlot s c.object i) s).resetAsserted = true from h] at hreset
    rw [← hreset] at hr
    cases hr
  · obtain rfl : i = j := by simpa using hj
    exact ⟨c, (congrArg PortEngine.op hport).trans hc, tileSlot_congr hobj _ _⟩

theorem sound_grantPort (hs : SlotsSound s) (hr : s.resetAsserted = false) (hb : s.burst = none) : SlotsSound (grantPort p s) := by
  have hplain {w : BurstWork} (hw : w.plain = true) (n : Nat) : SlotsSound (startBurst w n none (granted (.port p) s)) :=
    sound_startPlain ((calm_granted _).sound hs) hr hw n none
  unfold grantPort
  split
  · next c hc =>
    have ha : p = .a := by
      cases p with
      | a => rfl
      | b => exact absurd hc (hs.noStoreOnB c)
    subst ha
    split
    · split
      · exact hs
      · dsimp only
        split
        · exact (calm_storeReadTaken _ _ _ (not_storing_of_none hb)).sound hs
        · exact hplain rfl _
    · exact hs
    · split
      · exact hs
      · dsimp only
        split
        · exact (calm_storeWriteTaken_failed _ _ (not_storing_of_none hb)).sound hs
        · exact sound_startStoreWrite hs hr hb hc _ _
  · next tag bank _ h =>
    have hcalm : Calm s (granted (.port p) (s.setOp p (.probe tag bank true))) := (calm_setOp_of h rfl rfl).trans (calm_granted _)
    exact sound_startPlain (hcalm.sound hs) (hcalm.reset.trans hr) rfl _ none
  · split
    · exact hs
    · split
      · exact hs
      · split
        · exact hs
        · dsimp only
          split
          · exact (calm_renderReadTaken _ _).sound hs
          · exact hplain rfl _

theorem sound_grant (hs : SlotsSound s) (hr : s.resetAsserted = false) (hb : s.burst = none) (r : Requester) : SlotsSound (grant r s) := by
  cases r with
  | port q => exact sound_grantPort hs hr hb
  | upkeep =>
    unfold grant
    dsimp only
    split
    · exact (calm_granted _).sound (sound_startUpkeep hs hr hb)
    · exact sound_startUpkeep hs hr hb

theorem sound_arbitrate (hs : SlotsSound s) (hr : s.resetAsserted = false) (h : arbitrate s = some t) : SlotsSound t := by
  obtain ⟨hb, ⟨-, r, n, rfl⟩ | rfl⟩ := arbitrate_cases h
  · exact sound_grant ((calm_freeCount n).sound hs) hr hb r
  · refine Calm.sound ?_ hs
    exact .of_same rfl rfl rfl

/-! ## Preparation's bursts -/

theorem sound_startPrep {w : BurstWork} (hs : SlotsSound s) (hd : s.device = .preparing) (hr : s.resetAsserted = false)
    (n : Nat) (content : Option SlotContent) : SlotsSound (startBurst w n content s) :=
  hs.withBurst ⟨w, n, false, 0, content⟩ (fun _ => hd) (fun h => by rw [hr] at h; cases h) (fun _ _ _ _ _ ha => absurd hd ha.1)
    (fun _ _ _ ha => absurd hd ha.1) fun _ _ ha => absurd hd ha.1

theorem sound_prepStart (hs : SlotsSound s) (hr : s.resetAsserted = false) (h : prepStart s = some t) : SlotsSound t := by
  unfold prepStart at h
  split at h
  · cases h
  · next hno =>
    rw [not_or, Decidable.not_not] at hno
    split at h
    · cases h
    · obtain rfl := Option.some.inj h; exact sound_startPrep hs hno.1 hr _ _
    · obtain rfl := Option.some.inj h; exact sound_startPrep hs hno.1 hr _ _
    · next g _ =>
      obtain rfl := Option.some.inj h
      have hcalm : Calm s (startWrite g s) := calm_startWrite g
      exact sound_startPrep (hcalm.sound hs) (hcalm.device.trans hno.1) (hcalm.reset.trans hr) _ _
    · obtain rfl := Option.some.inj h; exact sound_startPrep hs hno.1 hr _ _
    · cases h

/-! ## Device states -/

/-- A device state other than PREPARING may be entered with no burst of preparation in flight, where the laws hold already. -/
theorem sound_enterState {d : DeviceState} (hf : Formed s) (hB : ∀ c, s.portB.op ≠ .store c) (hd : d ≠ .preparing)
    (hr : s.resetAsserted = false) (hb : ∀ b, s.burst = some b → BurstWork.preparing b.work = false) (hlaw : d ≠ .faulted → SlotLaw s) :
    SlotsSound (enterState d s) := by
  have hentered : SlotsSound { s with device := d, upkeep := { s.upkeep with
      timerRunning := d == .ready && scrubMode s.strap != .strobeOnly, timer := 0 } } := by
    refine ⟨hf.numbersRise, hf.tableForm, hB, fun h => absurd h hd, fun b hbb hp => ?_, fun h => ?_, fun _ hfa => ?_⟩
    · rw [hb b hbb] at hp
      cases hp
    · rw [show s.resetAsserted = true from h] at hr
      cases hr
    · have hl := hlaw hfa
      exact ⟨hl.owned, hl.tileSlots, hl.poolOnce, hl.poolFree, hl.listedOnce, hl.listed, hl.copyTarget, hl.readTarget, hl.writeTarget, hl.storeSlot⟩
  exact (calm_raiseDevice.trans calm_raiseDevice).sound hentered

theorem SlotsSound.not_preparing (hs : SlotsSound s) (hd : s.device ≠ .preparing) (b : Burst) (hb : s.burst = some b) :
    BurstWork.preparing b.work = false := by
  by_contra h
  exact hd (hs.preparingBurst b hb (Bool.eq_true_of_not_eq_false h))

theorem SlotsSound.not_reset (hs : SlotsSound s) (hd : s.device ≠ .preparing) : s.resetAsserted = false := by
  by_contra h
  exact hd (hs.inReset (Bool.eq_true_of_not_eq_false h)).1

/-- From one of READY, FLUSHING and HALTED another may be entered. -/
theorem sound_enterActive {d : DeviceState} (hs : SlotsSound s) (ha : Active s) (hd : d ≠ .preparing) : SlotsSound (enterState d s) :=
  sound_enterState hs.formed hs.noStoreOnB hd (hs.not_reset ha.1) (hs.not_preparing ha.1) fun _ => hs.lawOf ha

/-- The mark that a read in flight places no copy says nothing of its slots (R84). -/
theorem sound_stopUpkeep (hs : SlotsSound s) (ha : Active s) : SlotsSound (stopUpkeep s) := by
  have hlaw := hs.lawOf ha
  have hr := hs.not_reset ha.1
  unfold stopUpkeep
  split
  · next hb => exact sound_dropCopy hs (noCopyWrite_of_none hb)
  · next b hb =>
    split
    · exact hs
    · exact hs
    · next g n hw =>
      refine sound_dropCopy (hs.withBurst { b with work := .scrub g true } nofun (fun h => by rw [hr] at h; cases h) nofun nofun nofun) ?_
      rintro _ old d ⟨⟩
      exact nofun
    · next target g d n hw =>
      refine sound_dropCopy (hs.withBurst { b with work := .relocationRead target g d true } nofun (fun h => by rw [hr] at h; cases h)
        (fun target' g' d' n' hw' _ => ?_) nofun nofun) ?_
      · obtain ⟨rfl, -⟩ : target = target' ∧ _ := by simpa using hw'
        exact hlaw.readTarget b target g d n hb hw
      · rintro _ old d ⟨⟩
        exact nofun
    · next hwb hrw _ _ =>
      refine sound_dropCopy hs fun b' old d hb' hw => ?_
      obtain rfl := Option.some.inj (hb.symm.trans hb')
      exact hrw old d hw

theorem sound_enterFlushing (hs : SlotsSound s) (ha : Active s) : SlotsSound (enterFlushing s) := by
  have henter := sound_enterActive (d := .flushing) hs ha nofun
  have hcalm : Calm (enterState .flushing s) (voidAll (powerEnds .b (powerEnds .a (enterState .flushing s)))) :=
    calm_powerEnds.trans (calm_powerEnds.trans calm_voidAll)
  have hd : (voidAll (powerEnds .b (powerEnds .a (enterState .flushing s)))).device = .flushing := (flushingEnds_same s).1
  refine sound_stopUpkeep (hcalm.sound henter) ⟨?_, ?_⟩ <;> rw [hd] <;> exact nofun

theorem sound_flushComplete (hs : SlotsSound s) (h : flushComplete s = some t) : SlotsSound t := by
  obtain ⟨hd, -, hcases⟩ := flushComplete_cases h
  have ha : Active s := ⟨by rw [hd]; exact nofun, by rw [hd]; exact nofun⟩
  have hleave {v : State} (hv : SlotsSound v) (hva : Active v) : SlotsSound (leaveFlushing v) := by
    refine sound_enterActive hv hva ?_
    split <;> exact nofun
  obtain ⟨-, -, -, rfl⟩ | ⟨-, -, -, -, -, rfl⟩ := hcases
  · have hcalm : Calm s (endWaitNow .b (endWaitNow .a s)) := calm_endWaitNow.trans calm_endWaitNow
    exact hleave (hcalm.sound hs) (by rw [Active, hcalm.device]; exact ha)
  · exact hleave hs ha

end Sys2Proof.Machine

end

section
/-!
PROOF. The laws of the slots (O21), sixth part: DEFINE_OBJECT and WITHDRAW_EDITION, and what the part does of its own accord.
-/

namespace Sys2Proof.Machine

open Sys2Proof

variable {s t u : State} {p : Port} {b : Burst} {ns : List Nat} {tag : Tag}

/-! ## DEFINE_OBJECT -/

theorem takeMany_perm {k : Nat} : ∀ {l ns rest : List Nat}, takeMany s k l = some (ns, rest) → l.Perm (ns ++ rest) := by
  induction k with
  | zero =>
    intro l ns rest h
    obtain ⟨rfl, rfl⟩ : [] = ns ∧ l = rest := by simpa [takeMany] using h
    exact .refl _
  | succ k ih =>
    intro l ns rest h
    unfold takeMany at h
    split at h
    · cases h
    · next n pool hn =>
      split at h
      · cases h
      · next ms rest' hm =>
        obtain ⟨rfl, rfl⟩ : n :: ms = ns ∧ rest' = rest := by simpa using h
        exact (takeUsable_perm hn).trans ((ih hm).cons n)

theorem findObject_of_free {n : Nat} (h : freeObjectNumber s = some n) : s.findObject n = none := by
  rw [findObject_eq_none_iff]
  exact List.find?_some (p := fun n => s.objects.all fun o => o.number != n) h

/-- A record of a new number takes its place among the others. -/
theorem rising_insertBy {os : List ObjectRec} {o : ObjectRec} (h : (os.map (·.number)).Pairwise (· < ·)) (hn : o.number ∉ os.map (·.number)) :
    ((Assoc.insertBy (·.number) o os).map (·.number)).Pairwise (· < ·) := by
  have hle : ((Assoc.insertBy (·.number) o os).map (·.number)).Pairwise (· ≤ ·) :=
    List.pairwise_map.mpr (Assoc.insertBy_sorted ((List.pairwise_map.mp h).imp Nat.le_of_lt))
  have hnodup : ((Assoc.insertBy (·.number) o os).map (·.number)).Nodup :=
    ((Assoc.insertBy_perm o os).map _).nodup_iff.mpr (List.nodup_cons.mpr ⟨hn, h.imp Nat.ne_of_lt⟩)
  exact (hle.and hnodup).imp fun ⟨h1, h2⟩ => Nat.lt_of_le_of_ne h1 h2

theorem not_mem_numbers (h : s.findObject n = none) : n ∉ s.objects.map (·.number) := fun hmem => by
  obtain ⟨o, ho, rfl⟩ := List.mem_map.mp hmem
  exact absurd (List.find?_eq_none.mp h o ho) (by simp)

/-- What DEFINE_OBJECT leaves of the layout and of the rest, its slots being taken from the pool. -/
theorem addObject_fields (o : ObjectRec) {ns : List Nat} (rest : List Nat) (h : ns.Nodup) (s : State) :
    let t := addObject o ns rest s
    ∃ count, t = { s with slots := t.slots, pool := rest, dirty := t.dirty
                          objects := Assoc.insertBy (·.number) { o with impairedCount := count } s.objects
                          editions := s.editions.map fun e => if e.key = o.key then { e with
                            objects := Assoc.insertBy refRank ⟨o.number, o.kind, o.sequence⟩ e.objects
                            writtenUnderLock := e.writtenUnderLock || e.state == .closed } else e } ∧
      (Assoc.wf slotDefault s.slots = true → Assoc.wf slotDefault t.slots = true) ∧
      (∀ i n, ns[i]? = some n → t.slot n = tileEntry (s.slot n) o.number i) ∧ ∀ n, n ∉ ns → t.slot n = s.slot n := by
  obtain ⟨hframe, hwf, hin, hout⟩ := assignSlots_effect (object := o.number) (s := { s with pool := rest }) h
  rw [addObject]
  dsimp only
  generalize assignSlots o.number ns { s with pool := rest } = v at *
  exact ⟨impairedTiles v o, by rw [hframe]; rfl, hwf, hin, hout⟩

/-- The laws of the tables after DEFINE_OBJECT. -/
theorem tables_addObject {o : ObjectRec} {ns rest : List Nat} (h : Tables s) (hperm : s.pool.Perm (ns ++ rest))
    (hmap : o.tileMap = ns.map fun n => ⟨n, false⟩) (hfree : s.findObject o.number = none) : Tables (addObject o ns rest s) := by
  obtain ⟨hns, honce, hdisj⟩ := List.nodup_append.mp (hperm.nodup_iff.mp h.poolOnce)
  have hpool {n : Nat} (hn : n ∈ ns) := h.poolFree n (hperm.mem_iff.mpr (List.mem_append.mpr (.inl hn)))
  obtain ⟨count, hframe, -, hin, hout⟩ := addObject_fields o rest hns s
  have hnum := not_mem_numbers hfree
  have hnew {n : Nat} (hn : (s.slot n).state = .assigned) : n ∉ ns := fun hmem => by
    rw [(hpool hmem).2] at hn
    cases hn
  generalize addObject o ns rest s = t at *
  have hobjects : t.objects = Assoc.insertBy (·.number) { o with impairedCount := count } s.objects := by rw [hframe]
  have hfind : t.findObject o.number = some { o with impairedCount := count } := by
    rw [State.findObject, hobjects]
    exact Assoc.find?_insertBy_of_none (by simp) hfree
  have hfindOther {n : Nat} (hn : n ≠ o.number) : t.findObject n = s.findObject n := by
    rw [State.findObject, hobjects]
    exact Assoc.find?_insertBy_of_not (by simpa using Ne.symm hn)
  have hlisted {e : EditionRec} (he : e ∈ s.editions) {r : ObjectRef} (hr : r ∈ e.objects) : r.number ≠ o.number := fun hro => by
    obtain ⟨q, hq, -⟩ := h.listed e he r hr
    rw [hro, hfree] at hq
    cases hq
  refine ⟨fun q hq i m hm => ?_, fun q hq m hm => ?_, by rw [hframe]; exact honce, fun n hn => ?_, fun e he => ?_, fun e he r hr => ?_⟩
  · rcases Assoc.mem_insertBy.mp (hobjects ▸ hq) with rfl | hq
    · rw [show ({ o with impairedCount := count } : ObjectRec).tileMap[i]? = (ns.map fun n => (⟨n, false⟩ : MapEntry))[i]? by rw [hmap],
        List.getElem?_map, Option.map_eq_some_iff] at hm
      obtain ⟨n, hn, rfl⟩ := hm
      rw [hin i n hn]
      exact ⟨rfl, rfl, rfl⟩
    · have hown := h.owned q hq i m hm
      rw [hout m.slot (hnew hown.1)]
      exact hown
  · rcases Assoc.mem_insertBy.mp (hobjects ▸ hq) with rfl | hq
    · obtain ⟨n, hn, rfl⟩ := List.mem_map.mp (hmap ▸ hm : m ∈ ns.map fun n => (⟨n, false⟩ : MapEntry))
      exact (hpool hn).1
    · exact h.tileSlots q hq m hm
  · rw [hframe] at hn
    rw [hout n fun hmem => hdisj n hmem n hn rfl]
    exact h.poolFree n (hperm.mem_iff.mpr (List.mem_append.mpr (.inr hn)))
  · rw [hframe] at he
    obtain ⟨q, hq, rfl⟩ := List.mem_map.mp he
    split
    · refine ((Assoc.insertBy_perm _ q.objects).map _).nodup_iff.mpr (List.nodup_cons.mpr ⟨fun hmem => ?_, h.listedOnce q hq⟩)
      obtain ⟨r, hr, hro⟩ := List.mem_map.mp hmem
      exact hlisted hq hr hro
    · exact h.listedOnce q hq
  · rw [hframe] at he
    obtain ⟨q, hq, rfl⟩ := List.mem_map.mp he
    split at hr
    · next hk =>
      rw [if_pos hk]
      rcases Assoc.mem_insertBy.mp hr with rfl | hr
      · exact ⟨_, hfind, hk.symm⟩
      · rw [hfindOther (hlisted hq hr)]
        exact h.listed q hq r hr
    · next hk =>
      rw [if_neg hk, hfindOther (hlisted hq hr)]
      exact h.listed q hq r hr

theorem sound_addObject (hs : SlotsSound s) (ha : Active s) (hidle : ∀ c, s.portA.op ≠ .store c) {o : ObjectRec} {ns rest : List Nat}
    (hperm : s.pool.Perm (ns ++ rest)) (hmap : o.tileMap = ns.map fun n => ⟨n, false⟩) (hfree : s.findObject o.number = none) :
    SlotsSound (addObject o ns rest s) := by
  have hl := hs.lawOf ha
  have htables := tables_addObject hl.tables hperm hmap hfree
  have hns := (List.nodup_append.mp (hperm.nodup_iff.mp hl.poolOnce)).1
  obtain ⟨count, hframe, hwf, -, hout⟩ := addObject_fields o rest hns s
  have hrise := rising_insertBy (o := { o with impairedCount := count }) hs.numbersRise (not_mem_numbers hfree)
  generalize addObject o ns rest s = t at *
  have htarget {old target : Nat} (h : TargetOf s old target) : TargetOf t old target := by
    have hn : target ∉ ns := fun hmem => by
      have hst := h.2.1
      rw [(hl.poolFree target (hperm.mem_iff.mpr (List.mem_append.mpr (.inl hmem)))).2] at hst
      cases hst
    rw [TargetOf, hout target hn]
    exact h
  have hform : Formed t := ⟨by rw [hframe]; exact hrise, hwf hs.tableForm⟩
  refine hs.change hform (by rw [hframe]) (by rw [hframe]) (by rw [hframe]) (fun b hb => by rw [hframe] at hb; exact hb)
    (fun hd => absurd hd ha.1) fun _ _ => htables.law ⟨?_, ?_, ?_, ?_⟩
  · exact fun c target hc hp => htarget (hl.copyTarget c target (by rw [hframe] at hc; exact hc) hp)
  · intro b target g dropped noCopy hb hw
    obtain ⟨hn, ht⟩ := hl.readTarget b target g dropped noCopy (by rw [hframe] at hb; exact hb) hw
    exact ⟨by rw [hframe]; exact hn, htarget ht⟩
  · intro b old dropped hb hw
    obtain ⟨ht, hc⟩ := hl.writeTarget b old dropped (by rw [hframe] at hb; exact hb) hw
    exact ⟨htarget ht, fun c hbc => hc c (by rw [hframe] at hbc; exact hbc)⟩
  · intro b i hb hw
    obtain ⟨c, hc, -⟩ := hl.storeSlot b i (by rw [hframe] at hb; exact hb) hw
    exact absurd hc (hidle c)

/-! ## WITHDRAW_EDITION -/

/-- A slot of the edition is that of a tile of one of its objects. -/
theorem mem_editionSlots (h : Tables s) {refs : List ObjectRef} {n : Nat} (hn : n ∈ editionSlots s refs) :
    512 ≤ n ∧ (s.slot n).state = .assigned ∧ ∃ r ∈ refs, ∃ i, (s.slot n).owner = .tile r.number i := by
  obtain ⟨r, hr, hmem⟩ := List.mem_flatMap.mp hn
  split at hmem
  · next o ho =>
    obtain ⟨m, hm, rfl⟩ := List.mem_map.mp hmem
    obtain ⟨i, hi⟩ := List.getElem?_of_mem hm
    obtain ⟨hst, how, -⟩ := h.owned o (findObject_mem ho) i m hi
    exact ⟨h.tileSlots o (findObject_mem ho) m hm, hst, r, hr, i, findObject_number ho ▸ how⟩
  · cases hmem

/-- The slots of one object are its own, each of one tile. -/
theorem nodup_tileSlots (h : Tables s) {o : ObjectRec} (ho : o ∈ s.objects) : (o.tileMap.map (·.slot)).Nodup := by
  rw [List.nodup_iff_getElem?_ne_getElem?]
  intro i j hij hj heq
  rw [List.length_map] at hj
  rw [List.getElem?_map, List.getElem?_map, List.getElem?_eq_getElem hj, List.getElem?_eq_getElem (hij.trans hj), Option.map_some,
    Option.map_some, Option.some.injEq] at heq
  have hi := (h.owned o ho i _ (List.getElem?_eq_getElem (hij.trans hj))).2.1
  have hj := (h.owned o ho j _ (List.getElem?_eq_getElem hj)).2.1
  rw [heq, hj] at hi
  have : j = i := by simpa using hi
  omega

theorem nodup_editionSlots (h : Tables s) {refs : List ObjectRef} (hr : (refs.map (·.number)).Nodup) : (editionSlots s refs).Nodup := by
  refine List.nodup_flatMap.mpr ⟨fun r _ => ?_, (List.pairwise_map.mp hr).imp fun {r q} hne n hn hm => ?_⟩
  · split
    · next o ho => exact nodup_tileSlots h (findObject_mem ho)
    · exact List.nodup_nil
  · obtain ⟨-, -, r', hr', i, hi⟩ := mem_editionSlots h (refs := [r]) (by simpa [editionSlots] using hn)
    obtain ⟨-, -, q', hq', j, hj⟩ := mem_editionSlots h (refs := [q]) (by simpa [editionSlots] using hm)
    rw [List.mem_singleton.mp hr'] at hi
    rw [List.mem_singleton.mp hq', hi] at hj
    exact hne (by simpa using congrArg (fun o => match o with | .tile k _ => k | _ => 0) hj)

theorem released_of_releasedEntry {e : SlotEntry} : (releasedEntry e).state = if e.damage then .retired else .free := by
  unfold releasedEntry
  split <;> rfl

/-- A tile slot of an object that the edition does not list is not among its slots. -/
theorem not_mem_editionSlots (h : Tables s) {refs : List ObjectRef} {n object index : Nat} (ho : (s.slot n).owner = .tile object index)
    (hno : object ∉ refs.map (·.number)) : n ∉ editionSlots s refs := fun hn => by
  obtain ⟨-, -, r, hr, i, how⟩ := mem_editionSlots h hn
  rw [ho] at how
  obtain ⟨rfl, -⟩ : object = r.number ∧ index = i := by simpa using how
  exact hno (List.mem_map_of_mem hr)

/-- The laws of the tables once the edition is gone and its slots are released. -/
theorem tables_unshelve (h : Tables s) (hw : Assoc.wf slotDefault s.slots = true) {e : EditionRec} (he : e ∈ s.editions) :
    Tables (unshelve e (releaseSlots (editionSlots s e.objects) s)) := by
  have hns := nodup_editionSlots h (h.listedOnce e he)
  have hout : ∀ n ∈ editionSlots s e.objects, n ∉ s.pool := fun n hn => not_mem_pool_of_assigned h (mem_editionSlots h hn).2.1
  have hframe := releaseSlots_frame (editionSlots s e.objects) s
  have hpool := releaseSlots_pool hns hw hout
  have hin {n : Nat} (hn : n ∈ editionSlots s e.objects) := releaseSlots_slot hns hw hn
  have hother {n : Nat} (hn : n ∉ editionSlots s e.objects) := releaseSlots_slot_other hn s
  have hmem {n : Nat} (hn : n ∈ editionSlots s e.objects) := mem_editionSlots h hn
  have hleft {n object index : Nat} (ho : (s.slot n).owner = .tile object index) (hno : object ∉ e.objects.map (·.number)) :=
    not_mem_editionSlots h ho hno
  generalize releaseSlots (editionSlots s e.objects) s = v at *
  have hobj {o : ObjectRec} (ho : o ∈ (unshelve e v).objects) : o ∈ s.objects ∧ o.number ∉ e.objects.map (·.number) := by
    obtain ⟨hov, hno⟩ := List.mem_filter.mp ho
    exact ⟨by rw [hframe] at hov; exact hov, by simpa using hno⟩
  have hedition {q : EditionRec} (hq : q ∈ (unshelve e v).editions) : q ∈ s.editions ∧ q.key ≠ e.key := by
    obtain ⟨hqv, hk⟩ := List.mem_filter.mp hq
    exact ⟨by rw [hframe] at hqv; exact hqv, by simpa using hk⟩
  refine ⟨fun o ho i m hm => ?_, fun o ho => h.tileSlots o (hobj ho).1, ?_, fun n hn => ?_, fun q hq => h.listedOnce q (hedition hq).1,
    fun q hq r hr => ?_⟩
  · obtain ⟨hos, hno⟩ := hobj ho
    have hown := h.owned o hos i m hm
    change (v.slot m.slot).state = _ ∧ (v.slot m.slot).owner = _ ∧ (v.slot m.slot).written = _
    rw [hother (hleft hown.2.1 hno)]
    exact hown
  · change v.pool.Nodup
    rw [hpool]
    exact List.nodup_append.mpr ⟨h.poolOnce, hns.filter _, fun a ha b hb => by
      rintro rfl
      exact hout a (List.mem_filter.mp hb).1 ha⟩
  · change 512 ≤ n ∧ (v.slot n).state = .free
    rw [show (unshelve e v).pool = v.pool from rfl, hpool] at hn
    rcases List.mem_append.mp hn with hn | hn
    · rw [hother fun hmem => hout n hmem hn]
      exact h.poolFree n hn
    · obtain ⟨hn, hd⟩ := List.mem_filter.mp hn
      rw [hin hn, released_of_releasedEntry, if_neg (by simpa using hd)]
      exact ⟨(hmem hn).1, rfl⟩
  · obtain ⟨hqs, hqk⟩ := hedition hq
    obtain ⟨o, ho, hok⟩ := h.listed q hqs r hr
    refine ⟨o, ?_, hok⟩
    rw [findObject_unshelve, if_neg]
    · rw [hframe]
      exact ho
    · intro hmem
      obtain ⟨r', hr', hrr⟩ := List.mem_map.mp hmem
      obtain ⟨o', ho', hok'⟩ := h.listed e he r' hr'
      rw [hrr, ho, Option.some.injEq] at ho'
      rw [← ho', hok] at hok'
      exact hqk hok'

/-- The burst, the copy and the ports are as they stood. -/
theorem unshelve_releaseSlots_same (e : EditionRec) (ns : List Nat) (s : State) :
    (unshelve e (releaseSlots ns s)).burst = s.burst ∧ (unshelve e (releaseSlots ns s)).upkeep = s.upkeep ∧
      (unshelve e (releaseSlots ns s)).portA = s.portA ∧ (unshelve e (releaseSlots ns s)).portB = s.portB ∧
      (unshelve e (releaseSlots ns s)).device = s.device ∧ (unshelve e (releaseSlots ns s)).resetAsserted = s.resetAsserted := by
  unfold unshelve
  dsimp only
  rw [releaseSlots_frame]
  exact ⟨rfl, rfl, rfl, rfl, rfl, rfl⟩

theorem wf_releaseSlots (ns : List Nat) (h : Assoc.wf slotDefault s.slots = true) : Assoc.wf slotDefault (releaseSlots ns s).slots = true := by
  induction ns generalizing s with
  | nil => exact h
  | cons n ns ih => exact ih (wf_releaseSlot n h)

theorem sound_unshelve (hs : SlotsSound s) (ha : Active s) (hidle : ∀ c, s.portA.op ≠ .store c) {e : EditionRec} (he : e ∈ s.editions) :
    SlotsSound (unshelve e (releaseSlots (editionSlots s e.objects) s)) := by
  have hl := hs.lawOf ha
  have htables := tables_unshelve hl.tables hs.tableForm he
  obtain ⟨hburst, hup, hA, hB, hdev, hreset⟩ := unshelve_releaseSlots_same e (editionSlots s e.objects) s
  have hwf := wf_releaseSlots (editionSlots s e.objects) hs.tableForm
  have hrise : ((unshelve e (releaseSlots (editionSlots s e.objects) s)).objects.map (·.number)).Pairwise (· < ·) := by
    refine hs.numbersRise.sublist (List.Sublist.map _ ?_)
    unfold unshelve
    dsimp only
    rw [releaseSlots_frame]
    exact List.filter_sublist
  have htarget {old target : Nat} (h : TargetOf s old target) :
      TargetOf (unshelve e (releaseSlots (editionSlots s e.objects) s)) old target := by
    have hn : target ∉ editionSlots s e.objects := fun hmem => by
      obtain ⟨-, -, r, -, i, how⟩ := mem_editionSlots hl.tables hmem
      rw [h.2.2] at how
      cases how
    have hslot : (unshelve e (releaseSlots (editionSlots s e.objects) s)).slot target = s.slot target := releaseSlots_slot_other hn s
    rw [TargetOf, hslot]
    exact h
  generalize hu : unshelve e (releaseSlots (editionSlots s e.objects) s) = t at *
  have hslots : t.slots = (releaseSlots (editionSlots s e.objects) s).slots := by rw [← hu]; rfl
  refine hs.change ⟨hrise, hslots ▸ hwf⟩ (by rw [hB]) hdev hreset (fun b hb => hburst ▸ hb) (fun hd => absurd hd ha.1) fun _ _ =>
    htables.law ⟨?_, ?_, ?_, ?_⟩
  · rw [hup]
    exact fun c target hc hp => htarget (hl.copyTarget c target hc hp)
  · rw [hburst, hup]
    intro b target g dropped noCopy hb hw
    obtain ⟨hn, ht⟩ := hl.readTarget b target g dropped noCopy hb hw
    exact ⟨hn, htarget ht⟩
  · rw [hburst, hup]
    intro b old dropped hb hw
    obtain ⟨ht, hc⟩ := hl.writeTarget b old dropped hb hw
    exact ⟨htarget ht, hc⟩
  · rw [hburst]
    intro b i hb hw
    obtain ⟨c, hc, -⟩ := hl.storeSlot b i hb hw
    exact absurd hc (hidle c)

/-- A burst that has lost its outcome has its slots still. -/
theorem sound_outcomeDropped (hs : SlotsSound s) (ha : Active s) (ns : List Nat) (hb : s.burst = some b) :
    SlotsSound { s with burst := some (outcomeDropped ns b) } := by
  have hl := hs.lawOf ha
  obtain ⟨work, slot, retry, timer, content⟩ := b
  refine hs.withBurst _ (fun hp => ?_) (fun h => ?_) (fun target g dropped noCopy hw _ => ?_) (fun old dropped hw _ => ?_) fun i hw _ => ?_
  · refine hs.preparingBurst _ hb ?_
    cases work <;> exact hp
  · rw [hs.not_reset ha.1] at h
    cases h
  · cases work with
    | relocationRead target' g' d n =>
      obtain ⟨rfl, -⟩ : target' = target ∧ _ := by simpa [outcomeDropped] using hw
      have h := hl.readTarget _ target' g' d n hb rfl
      exact h
    | _ => cases hw
  · cases work with
    | relocationWrite old' d =>
      obtain ⟨rfl, -⟩ : old' = old ∧ _ := by simpa [outcomeDropped] using hw
      have h := hl.writeTarget _ old' d hb rfl
      exact h
    | _ => cases hw
  · cases work with
    | storeWrite j =>
      obtain rfl : j = i := by simpa [outcomeDropped] using hw
      have h := hl.storeSlot _ j hb rfl
      exact h
    | _ => cases hw

/-- What the upkeep engine gives up of released slots keeps the slots sound. -/
theorem sound_dropReleased (hs : SlotsSound s) (ha : Active s) (ns : List Nat) : SlotsSound (dropReleased ns s) := by
  have hcopy : SlotsSound (copyReleased ns s) := by
    unfold copyReleased
    split
    · split
      · next h => exact sound_dropCopy hs fun b old dropped hb hw => by simp [copyInWriting, hb, hw] at h
      · exact hs
    · exact hs
  have hburst := copyReleased_burst ns s
  have hdev : (copyReleased ns s).device = s.device := by
    rcases copyReleased_cases ns s with ⟨h, -⟩ | ⟨h, -⟩ <;> rw [h]
    rw [dropCopy_frame]
  rw [dropReleased_eq, ← hburst]
  cases hb : (copyReleased ns s).burst with
  | none =>
    refine Calm.sound (s := copyReleased ns s) (.of_same ?_ rfl rfl) hcopy
    simp only [State.core, hb, Option.map_none]
  | some b => exact sound_outcomeDropped hcopy (by rw [Active, hdev]; exact ha) ns hb

theorem copyReleased_unshelve (e : EditionRec) (ns : List Nat) (s : State) :
    copyReleased ns (unshelve e s) = unshelve e (copyReleased ns s) := by
  have hdrop : dropCopy (unshelve e s) = unshelve e (dropCopy s) := by
    unfold dropCopy
    rw [show (unshelve e s).upkeep.buffer = s.upkeep.buffer from rfl]
    split
    · rfl
    · dsimp only
      split <;> rfl
  unfold copyReleased
  rw [show (unshelve e s).upkeep.buffer = s.upkeep.buffer from rfl, show copyInWriting (unshelve e s) = copyInWriting s from rfl, hdrop]
  split
  · split <;> rfl
  · rfl

/-- The two parts of a withdrawal may be taken in either order. -/
theorem withdrawEdition_eq_dropReleased (e : EditionRec) (s : State) : withdrawEdition e s =
    refillDamage (dropReleased (editionSlots s e.objects) (unshelve e (releaseSlots (editionSlots s e.objects) s))) := by
  rw [withdrawEdition_eq, dropReleased_eq, dropReleased_eq, copyReleased_unshelve]
  rfl

theorem sound_withdrawEdition (hs : SlotsSound s) (ha : Active s) (hidle : ∀ c, s.portA.op ≠ .store c) {e : EditionRec}
    (he : e ∈ s.editions) : SlotsSound (withdrawEdition e s) := by
  rw [withdrawEdition_eq_dropReleased]
  have hdev := (unshelve_releaseSlots_same e (editionSlots s e.objects) s).2.2.2.2.1
  exact calm_refillDamage.sound (sound_dropReleased (sound_unshelve hs ha hidle he) (by rw [Active, hdev]; exact ha) _)

/-! ## Commands -/

theorem op_ne_store (h : (s.port p).op = .idle) (c : StoreCtx) : (s.port p).op ≠ .store c := fun hc => by
  rw [h] at hc
  cases hc

section
variable (hop : (s.port p).op = .idle)
include hop

theorem sound_refused (hs : SlotsSound s) (r : Response) : SlotsSound (answer p r s) := (calm_answer r hop).sound hs

/-- A command of Port A that is admitted starts in READY with no operation on its port. -/
theorem sound_whenAdmitted (hs : SlotsSound s) {run : State}
    (h : Active s → p = .a → SlotsSound run) : SlotsSound (whenAdmitted .onlyA p tag s run) := by
  unfold whenAdmitted
  split
  · exact sound_refused hop hs _
  · next hd =>
    split
    · next ho =>
      refine h ⟨fun hp => ?_, fun hp => ?_⟩ ?_
      · rw [hp] at hd; cases hd
      · rw [hp] at hd; cases hd
      · cases p with
        | a => rfl
        | b => cases ho
    · exact sound_refused hop hs _

theorem sound_defineObjectRun (hs : SlotsSound s) (key kind sequence width height polarity : Word) :
    SlotsSound (defineObjectRun p tag key kind sequence width height polarity s) := by
  refine sound_whenAdmitted hop hs fun ha hp => ?_
  subst hp
  split
  · dsimp only
    split
    · exact sound_refused hop hs _
    · split
      · exact sound_refused hop hs _
      · split
        · exact sound_refused hop hs _
        · split
          · exact sound_refused hop hs _
          · split
            · exact sound_refused hop hs _
            · split
              · exact sound_refused hop hs _
              · next number hnum =>
                split
                · exact sound_refused hop hs _
                · split
                  · exact sound_refused hop hs _
                  · next ns rest htake =>
                    have hperm := takeMany_perm htake
                    have hns := (List.nodup_append.mp (hperm.nodup_iff.mp (hs.lawOf ha).poolOnce)).1
                    refine sound_refused ?_ (sound_addObject hs ha (op_ne_store hop) hperm rfl (findObject_of_free hnum)) _
                    obtain ⟨_, hframe, -⟩ := addObject_fields (newObject number _ (keyOf key) (numberOf sequence) (numberOf width)
                      (numberOf height) _ ns) rest hns s
                    rw [hframe]
                    exact hop
  · exact sound_refused hop hs _

theorem sound_withdrawEditionRun (hs : SlotsSound s) (key : Word) : SlotsSound (withdrawEditionRun p tag key s) := by
  refine sound_whenAdmitted hop hs fun ha hp => ?_
  subst hp
  split
  · exact sound_refused hop hs _
  · split
    · exact sound_refused hop hs _
    · next e he =>
      split
      · exact sound_refused hop hs _
      · have hsound := sound_withdrawEdition hs ha (op_ne_store hop) (List.mem_of_find?_eq_some he)
        refine sound_refused ?_ hsound _
        rw [withdrawEdition_frame]
        exact hop

theorem sound_runCommand (hs : SlotsSound s) (code : Nat) (r : InRecord) : SlotsSound (runCommand code p tag r s) := by
  unfold runCommand
  split
  · exact (calm_openEditionRun hop _ _ _).sound hs
  · exact sound_defineObjectRun hop hs _ _ _ _ _ _
  · exact (calm_closeEditionRun hop _).sound hs
  · exact (calm_amendEditionRun hop _ _ _).sound hs
  · exact sound_withdrawEditionRun hop hs _
  · exact (calm_putWindowRun hop _ _ _ _ _ _ _ _).sound hs
  · exact (calm_serviceBankRun hop _).sound hs
  · exact (calm_lockEditionRun hop _).sound hs
  · exact (calm_unlockEditionRun hop _).sound hs
  · exact (calm_scrubStrobeRun hop).sound hs
  · exact (calm_scrubBurstRun hop _).sound hs
  · exact (calm_takeDamageRun hop).sound hs
  · exact (calm_writeCurveRun hop _ _ _ _).sound hs
  · exact (calm_writeFillRun hop _ _).sound hs
  · exact (calm_orderReprintRun hop _ _ _ _ _).sound hs
  · exact (calm_takeChargeRun hop).sound hs
  · exact (calm_whenAdmitted hop fun _ => calm_changeAccount hop _ _ _ _).sound hs
  · exact (calm_whenAdmitted hop fun _ => calm_changeAccount hop _ _ _ _).sound hs
  · exact (calm_whenAdmitted hop fun _ => calm_changeAccount hop _ _ _ _).sound hs
  · exact (calm_whenAdmitted hop fun _ => calm_changeAccount hop _ _ _ _).sound hs
  · exact (calm_setDiscountRun hop _ _).sound hs
  · exact (calm_readTallyRun hop _).sound hs
  · exact (calm_whenAdmitted hop fun _ => calm_changeAccount hop _ _ _ _).sound hs
  · exact (calm_writeScheduleRun hop _ _ _).sound hs
  · exact (calm_setYearRun hop _).sound hs
  · exact sound_refused hop hs _
  · exact (calm_readEditionRun hop _).sound hs
  · exact (calm_readObjectRun hop _ _).sound hs
  · exact (calm_listEditionsRun hop _).sound hs
  · exact (calm_renderRun hop _ _ _ _ _ _ _).sound hs
  · exact (calm_readCurveRun hop _).sound hs
  · exact (calm_whenAdmitted hop fun _ => calm_answer _ hop).sound hs
  · exact sound_refused hop hs _

theorem sound_runRecord (hs : SlotsSound s) (r : InRecord) : SlotsSound (runRecord p r s) := by
  unfold runRecord
  dsimp only
  split
  · exact sound_refused hop hs _
  · split
    · exact sound_refused hop hs _
    · exact sound_runCommand hop hs _ _

end

/-- A record that is no data record is taken from the head of a queue only while no operation is in flight. -/
theorem op_of_canTake {r : InRecord} {rest : List InRecord} (h : canTake p s = true) (hq : (s.port p).inq = r :: rest)
    (hd : ¬ headerIsData r.header = true) : (s.port p).op = .idle := by
  have hdata : headerIsData r.header = false := Bool.eq_false_of_not_eq_true hd
  have hstray : strayAtHead p s = false := by simp only [strayAtHead, hq, hdata, Bool.false_and]
  have hcommand : commandAtHead p s = true := by rwa [canTake, hstray, Bool.false_or] at h
  simp only [commandAtHead, hq, Bool.and_eq_true, beq_iff_eq] at hcommand
  obtain ⟨⟨⟨-, hidle⟩, -⟩, -⟩ := hcommand
  exact hidle

theorem sound_takeHead (hs : SlotsSound s) (h : canTake p s = true) : SlotsSound (takeHead p s) := by
  unfold takeHead
  split
  · exact hs
  · next r rest hq =>
    have hrest : Calm s (s.modPort p fun e => { e with inq := rest }) := calm_modPort rfl
    dsimp only
    split
    · exact (hrest.trans (calm_raiseStray _)).sound hs
    · next hd =>
      refine sound_runRecord ?_ (hrest.sound hs) r
      rw [modPort_port_same]
      exact op_of_canTake h hq hd

theorem sound_inbound (hs : SlotsSound s) (h : inbound s = some t) : SlotsSound t := by
  unfold inbound at h
  split at h
  · next ha _ => obtain rfl := Option.some.inj h; exact sound_takeHead hs ha
  · next _ hb => obtain rfl := Option.some.inj h; exact sound_takeHead hs hb
  · next ha hb =>
    obtain rfl := Option.some.inj h
    refine sound_takeHead ((calm_freeCount _).sound hs) ?_
    generalize Config.firstPort s.freeCount = q
    cases q
    · exact ha
    · exact hb
  · cases h

/-! ## What the part does of its own accord -/

theorem sound_microStep (hs : SlotsSound s) (h : microStep s = some t) : SlotsSound t := by
  have hb := storeOn_eq_none.mpr hs.noStoreOnB
  obtain ⟨hr, h | h | h | h | h | h | h | h | h | h | h | h⟩ := microStep_cases h
  · exact (calm_placeMark h).sound hs
  · exact (calm_placeMark h).sound hs
  · exact (calm_placeMade h).sound hs
  · exact (calm_placeMade h).sound hs
  · exact (calm_enterHeld h).sound hs
  · exact (calm_enterHeld h).sound hs
  · exact (calm_advance hb h).sound hs
  · exact (calm_advance hb h).sound hs
  · exact sound_flushComplete hs h
  · exact sound_prepStart hs hr h
  · exact sound_arbitrate hs hr h
  · exact sound_inbound hs h

theorem sound_settle (hs : SlotsSound s) : SlotsSound (settle s) :=
  settle_keeps (P := SlotsSound) (fun _ _ h hm => sound_microStep h hm) hs

end Sys2Proof.Machine

end

section
/-!
PROOF. The laws of the slots (O21), seventh part: the end of a burst, and what its requester does with the outcome.
-/

namespace Sys2Proof.Machine

open Sys2Proof

variable {s t u : State} {p : Port} {b : Burst}

/-! ## The end of a burst -/

theorem sound_burstOver (hs : SlotsSound s) : SlotsSound (burstOver s) := by
  refine hs.change ⟨hs.numbersRise, hs.tableForm⟩ rfl rfl rfl nofun (fun _ => id) fun _ hl => Tables.idleLaw ?_ rfl hl.copyTarget
  exact hl.tables.of_laid hs.tableForm (.of_same rfl rfl rfl rfl)

theorem sound_emptied (hs : SlotsSound s) (hb : s.burst = none) : SlotsSound { s with upkeep := { s.upkeep with buffer := none } } := by
  refine hs.change ⟨hs.numbersRise, hs.tableForm⟩ rfl rfl rfl (fun _ => id) (fun _ _ => rfl) fun _ hl => Tables.idleLaw ?_ hb nofun
  exact hl.tables.of_laid hs.tableForm (.of_same rfl rfl rfl rfl)

theorem sound_emptyWritten (hs : SlotsSound s) (hb : s.burst = none) (b : Burst) : SlotsSound (emptyWritten b s) := by
  unfold emptyWritten
  split
  · exact sound_emptied hs hb
  · exact sound_emptied hs hb
  · exact hs

theorem sound_bankAfter (hs : SlotsSound s) (hb : s.burst = none) (b : Burst) (done : Bool) : SlotsSound (bankAfter b done s) := by
  unfold bankAfter
  split
  · split
    · exact sound_setBank hs hb _ _
    · exact hs
  · exact sound_setBank hs hb _ _

theorem calm_bankAfter (b : Burst) (done : Bool) (h : s.upkeep.buffer = none) : Calm s (bankAfter b done s) := by
  unfold bankAfter
  split
  · split
    · exact calm_setBank _ _ h
    · exact .refl s
  · exact calm_setBank _ _ h

theorem sound_writeEnded (hs : SlotsSound s) (b : Burst) (done : Bool) : SlotsSound (writeEnded b done s) := by
  have hempty := sound_emptyWritten (sound_burstOver hs) rfl b
  have hburst : (emptyWritten b (burstOver s)).burst = none := by rw [emptyWritten_frame]; rfl
  have hcontent := calm_contentAfter (s := emptyWritten b (burstOver s)) b done
  exact sound_bankAfter (hcontent.sound hempty) (hcontent.burst.trans hburst) b done

theorem sound_readEnded (hs : SlotsSound s) (b : Burst) (done : Bool) : SlotsSound (readEnded b done s) :=
  sound_bankAfter (sound_burstOver hs) rfl b done

theorem setBank_places (n : Nat) (st : BankState) (s : State) :
    (setBank n st s).objects.map objectPlace = s.objects.map objectPlace := by
  by_cases heq : s.banks.getD n .online = st
  · rw [setBank_of_eq heq]
  · rw [setBank_of_ne heq]
    have hraised := calm_raised (s := s) n st
    split
    · have hcounted := hraised.trans (calm_recountWhere fun o => o.tileMap.any fun m => bankOf m.slot == n)
      refine .trans (congrArg _ ?_) hcounted.laid.objects
      unfold bankCrossed dropIfOffline
      split
      · rfl
      · split
        · rw [dropCopy_frame]
        · rfl
    · exact hraised.laid.objects

/-- The end of a write leaves the tile maps. -/
theorem writeEnded_places (b : Burst) (done : Bool) (s : State) :
    (writeEnded b done s).objects.map objectPlace = s.objects.map objectPlace := by
  have hcontent : (contentAfter b done (emptyWritten b (burstOver s))).objects = s.objects := by
    rw [contentAfter_frame, emptyWritten_frame]
    rfl
  unfold writeEnded bankAfter
  split
  · split
    · rw [setBank_places, hcontent]
    · rw [hcontent]
  · rw [setBank_places, hcontent]

/-! ## A slot given to a tile position -/

/-- One tile position of one object takes a slot, which may be its own; every other position keeps its slot. -/
theorem Tables.retile {object index n : Nat} {w : Bool} {f : ObjectRec → ObjectRec} (h : Tables s) (ho : t.objects = s.objects.map f)
    (hnum : ∀ o, (f o).number = o.number) (hkey : ∀ o, (f o).key = o.key)
    (hmap : ∀ o ∈ s.objects, (f o).tileMap = if o.number = object then o.tileMap.set index ⟨n, w⟩ else o.tileMap)
    (he : t.editions = s.editions)
    (hnew : ∀ o ∈ s.objects, o.number = object → index < o.tileMap.length →
      512 ≤ n ∧ (t.slot n).state = .assigned ∧ (t.slot n).owner = .tile object index ∧ (t.slot n).written = w)
    (hslot : ∀ o ∈ s.objects, ∀ i m, o.tileMap[i]? = some m → (o.number = object → i ≠ index) →
      slotPlace (t.slot m.slot) = slotPlace (s.slot m.slot))
    (honce : t.pool.Nodup) (hfree : ∀ n ∈ t.pool, 512 ≤ n ∧ (t.slot n).state = .free) : Tables t := by
  have hentry {o : ObjectRec} (hos : o ∈ s.objects) {i : Nat} {m : MapEntry} (hm : (f o).tileMap[i]? = some m) :
      (o.tileMap[i]? = some m ∧ (o.number = object → i ≠ index)) ∨
        (o.number = object ∧ i = index ∧ index < o.tileMap.length ∧ m = ⟨n, w⟩) := by
    rw [hmap o hos] at hm
    by_cases hobj : o.number = object
    · rw [if_pos hobj] at hm
      by_cases hi : i = index
      · subst hi
        obtain ⟨hlt, hget⟩ := List.getElem?_eq_some_iff.mp hm
        rw [List.getElem_set_self] at hget
        exact .inr ⟨hobj, rfl, by rwa [List.length_set] at hlt, hget.symm⟩
      · rw [List.getElem?_set_ne (Ne.symm hi)] at hm
        exact .inl ⟨hm, fun _ => hi⟩
    · rw [if_neg hobj] at hm
      exact .inl ⟨hm, fun h => absurd h hobj⟩
  refine ⟨fun o' ho' i m hm => ?_, fun o' ho' m hm => ?_, honce, hfree, fun e hmem => h.listedOnce e (he ▸ hmem), fun e hmem r hr => ?_⟩
  · obtain ⟨o, hos, rfl⟩ := List.mem_map.mp (ho ▸ ho')
    rw [hnum]
    rcases hentry hos hm with ⟨hm, hne⟩ | ⟨rfl, rfl, hlt, rfl⟩
    · obtain ⟨hst, how, hwr⟩ := h.owned o hos i m hm
      have hp := hslot o hos i m hm hne
      exact ⟨(congrArg (·.1) hp).trans hst, (congrArg (·.2.1) hp).trans how, (congrArg (·.2.2) hp).trans hwr⟩
    · exact (hnew o hos rfl hlt).2
  · obtain ⟨o, hos, rfl⟩ := List.mem_map.mp (ho ▸ ho')
    obtain ⟨i, hi⟩ := List.mem_iff_getElem?.mp hm
    rcases hentry hos hi with ⟨hi, -⟩ | ⟨hobj, -, hlt, rfl⟩
    · exact h.tileSlots o hos m (List.mem_of_getElem? hi)
    · exact (hnew o hos hobj hlt).1
  · obtain ⟨o, hfo, hok⟩ := h.listed e (he ▸ hmem) r hr
    refine ⟨f o, ?_, (hkey o).trans hok⟩
    rw [State.findObject, ho, find?_map_number hnum]
    exact congrArg (Option.map f) hfo

/-! ## A relocation's read and write -/

theorem sound_returnTarget {old target : Nat} (hs : SlotsSound s) (hb : s.burst = none) (hbuf : Active s → s.upkeep.buffer = none)
    (ht : Active s → TargetOf s old target) : SlotsSound (returnTarget target s) := by
  refine hs.change (formed_returnTarget _ hs.formed) rfl rfl rfl (fun _ => id) (fun _ => id) fun ha hl => ?_
  refine (hl.tables.returnTarget hs.tableForm (ht ha)).idleLaw hb fun c target' hc => ?_
  rw [show (returnTarget target s).upkeep.buffer = s.upkeep.buffer from rfl, hbuf ha] at hc
  cases hc

theorem sound_relocationReadTaken {old target : Nat} (hs : SlotsSound s) (hb : s.burst = none)
    (hbuf : Active s → s.upkeep.buffer = none) (ht : Active s → TargetOf s old target) (g : BitVec 8) (dropped noCopy : Bool) (d : Delivery) :
    SlotsSound (relocationReadTaken old target g dropped noCopy d s) := by
  unfold relocationReadTaken
  split
  · exact sound_returnTarget hs hb hbuf ht
  · have hplaced (v : State) (hcalm : Calm s v) : SlotsSound (if placesCopy noCopy v then
        { v with upkeep := { v.upkeep with buffer := some ⟨old, g, d.samples, .relocation target⟩ } } else returnTarget target v) := by
      have hv := hcalm.sound hs
      have hactive : Active v → Active s := by rw [Active, hcalm.device]; exact id
      have hvt : Active v → TargetOf v old target := fun ha => targetOf_of_laid hs.tableForm hcalm.laid (ht (hactive ha))
      split
      · next hplace =>
        simp only [placesCopy, Bool.and_eq_true, beq_iff_eq] at hplace
        refine hv.change ⟨hv.numbersRise, hv.tableForm⟩ rfl rfl rfl (fun _ => id) (fun hp => ?_) fun ha hl => ?_
        · rw [hplace.1] at hp
          cases hp
        · refine Tables.idleLaw (hl.tables.of_laid hv.tableForm (.of_same rfl rfl rfl rfl)) (hcalm.burst.trans hb) fun c target' hc hpu => ?_
          obtain rfl := Option.some.inj hc
          obtain rfl : target = target' := by simpa using hpu
          exact hvt ha
      · exact sound_returnTarget hv (hcalm.burst.trans hb) (fun ha => hcalm.buffer.trans (hbuf (hactive ha))) hvt
    dsimp only
    split
    · exact hplaced _ (calm_recordDamage old)
    · exact hplaced s (.refl s)

/-- The layout after the switch of a tile, before the marks of groups and the recount. -/
theorem switchTile_fields (old target object index : Nat) (s : State) :
    let t := retireSlot old (leaveRelocations old (tileHanded old target object index s))
    t.objects = s.objects.map (fun o => if o.number = object then { o with tileMap := o.tileMap.set index ⟨target, (s.slot old).written⟩ } else o) ∧
      t.editions = s.editions ∧ t.pool = s.pool.filter (· != old) ∧ t.burst = s.burst ∧ t.upkeep.buffer = s.upkeep.buffer ∧
      t.portB = s.portB ∧ t.device = s.device ∧ t.resetAsserted = s.resetAsserted ∧
      (Assoc.wf slotDefault s.slots = true → Assoc.wf slotDefault t.slots = true) := by
  have hwf (hw : Assoc.wf slotDefault s.slots = true) :
      Assoc.wf slotDefault (leaveRelocations old (tileHanded old target object index s)).slots = true :=
    ((laid_leaveRelocations (s := tileHanded old target object index s) old).slots (wf_setSlot s target _ hw)).1
  refine ⟨?_, ?_, ?_, ?_, ?_, ?_, ?_, ?_, fun hw => wf_setSlot _ _ _ (hwf hw)⟩ <;>
  · rw [retireSlot_frame, leaveRelocations_frame]
    rfl

theorem switchTile_slots {old target object index : Nat} (how : (s.slot old).owner = .tile object index) (hne : target ≠ old) :
    let t := retireSlot old (leaveRelocations old (tileHanded old target object index s))
    t.slot target = { s.slot target with
        owner := .tile object index, written := (s.slot old).written, damage := (s.slot old).damage, count := 0 } ∧
      ∀ n, n ≠ target → n ≠ old → t.slot n = s.slot n := by
  have htarget : (tileHanded old target object index s).slot target = { s.slot target with
      owner := .tile object index, written := (s.slot old).written, damage := (s.slot old).damage, count := 0 } :=
    slot_setSlot_new s (owner_ne_default (object := object) (index := index) rfl)
  have hother {n : Nat} (hn : n ≠ target) : (tileHanded old target object index s).slot n = s.slot n := slot_setSlot_other s _ hn
  obtain ⟨-, hleft⟩ := leaveRelocations_slot (n := old) (s := tileHanded old target object index s) (by rw [hother hne.symm]; exact how)
  have hretired {n : Nat} (hn : n ≠ old) : (retireSlot old (leaveRelocations old (tileHanded old target object index s))).slot n =
      (tileHanded old target object index s).slot n := (slot_setSlot_other _ _ hn).trans (hleft n hn)
  exact ⟨(hretired hne).trans htarget, fun n hn hno => (hretired hno).trans (hother hn)⟩

theorem map_number_of_map {os : List ObjectRec} {f : ObjectRec → ObjectRec} (hf : ∀ o, (f o).number = o.number) :
    (os.map f).map (·.number) = os.map (·.number) := (List.map_map ..).trans (List.map_congr_left fun o _ => hf o)

/-- The switch gives the tile position the target, and no other position had the old slot. -/
theorem sound_switchTile {old target object index : Nat} (hs : SlotsSound s) (hb : s.burst = none)
    (hbuf : Active s → s.upkeep.buffer = none) (ht : Active s → TargetOf s old target) (how : (s.slot old).owner = .tile object index) :
    SlotsSound (switchTile old target object index s) := by
  rw [switchTile_eq]
  obtain ⟨ho, he, hpool, hburst, hbuffer, hB, hd, hr, hwf⟩ := switchTile_fields old target object index s
  have hslots (hne : target ≠ old) := switchTile_slots how hne
  have hmarked (v : State) : Calm v (markDirty (markGroup target) (markDirty (objectGroup object) (recountObject object v))) :=
    .trans (.trans (calm_recountWhere _) ((laid_markDirty _).calm rfl rfl rfl)) ((laid_markDirty _).calm rfl rfl rfl)
  refine (hmarked _).sound ?_
  generalize retireSlot old (leaveRelocations old (tileHanded old target object index s)) = t at *
  have hnum (o : ObjectRec) : (if o.number = object then { o with tileMap := o.tileMap.set index ⟨target, (s.slot old).written⟩ } else o).number =
      o.number := by split <;> rfl
  refine hs.change ⟨?_, hwf hs.tableForm⟩ (by rw [hB]) hd hr (fun b h => hburst ▸ h) (fun _ h => hbuffer.trans h) fun ha hl =>
    Tables.idleLaw ?_ (hburst.trans hb) fun c target' hc => ?_
  · rw [ho, map_number_of_map hnum]
    exact hs.numbersRise
  · obtain ⟨h512, hst, hown⟩ := ht ha
    have hne : target ≠ old := fun h => by rw [← h, hown] at how; cases how
    obtain ⟨htarget, hother⟩ := hslots hne
    refine hl.tables.retile (object := object) (index := index) ho hnum (fun o => by split <;> rfl) (fun o _ => by split <;> rfl) he
      (fun o _ _ _ => ?_) (fun o hos i m hm hni => ?_) (hpool ▸ hl.poolOnce.filter _) fun n hn => ?_
    · rw [htarget]
      exact ⟨h512, hst, rfl, rfl⟩
    · obtain ⟨-, hom, -⟩ := hl.owned o hos i m hm
      refine congrArg slotPlace (hother _ (fun h => ?_) fun h => ?_)
      · rw [h, hown] at hom
        cases hom
      · rw [h, how] at hom
        obtain ⟨hobj, hi⟩ : object = o.number ∧ index = i := by simpa using hom
        exact hni hobj.symm hi.symm
    · rw [hpool] at hn
      obtain ⟨hmem, hno⟩ := List.mem_filter.mp hn
      rw [hother n (fun h => not_mem_pool_of_assigned hl.tables hst (h ▸ hmem)) (by simpa using hno)]
      exact hl.poolFree n hmem
  · rw [hbuffer, hbuf ha] at hc
    cases hc

theorem sound_relocationWriteTaken {old target : Nat} (hs : SlotsSound s) (hb : s.burst = none)
    (hbuf : Active s → s.upkeep.buffer = none) (ht : Active s → TargetOf s old target) (dropped done : Bool) :
    SlotsSound (relocationWriteTaken old target dropped done s) := by
  unfold relocationWriteTaken
  split
  · exact sound_returnTarget hs hb hbuf ht
  · split
    · next object index how => exact sound_switchTile hs hb hbuf ht how
    · exact sound_returnTarget hs hb hbuf ht

/-! ## A scrub visit -/

/-- A FREE slot that turns out uncorrectable leaves the pool (R89). -/
theorem sound_retireFree {n : Nat} (hs : SlotsSound s) (hb : s.burst = none) (hfree : (s.slot n).state = .free) : SlotsSound (retireSlot n s) := by
  have hother {m : Nat} (hm : m ≠ n) : (retireSlot n s).slot m = s.slot m := slot_setSlot_other s _ hm
  have hassigned {m : Nat} (hm : (s.slot m).state = .assigned) : m ≠ n := fun h => by
    rw [h, hfree] at hm
    cases hm
  refine hs.change (formed_of_slots hs.formed rfl (wf_setSlot s n _ hs.tableForm)) rfl rfl rfl (fun _ => id) (fun _ => id) fun _ hl =>
    Tables.idleLaw ?_ hb fun c target hc hp => ?_
  · refine hl.tables.slots rfl rfl (fun m object index hst _ => congrArg slotPlace (hother (hassigned hst))) (hl.poolOnce.filter _)
      fun m hm => ?_
    obtain ⟨hmem, hne⟩ := List.mem_filter.mp hm
    rw [hother (by simpa using hne)]
    exact hl.poolFree m hmem
  · obtain ⟨h512, hst, how⟩ := hl.copyTarget c target hc hp
    rw [TargetOf, hother (hassigned hst)]
    exact ⟨h512, hst, how⟩

theorem sound_scrubTile (hs : SlotsSound s) (hb : s.burst = none) (n : Nat) (g : BitVec 8) (noCopy : Bool) (d : Delivery) :
    SlotsSound (scrubTile n g noCopy d s) := by
  unfold scrubTile
  dsimp only
  split
  · split
    · refine Calm.sound (s := s) ?_ hs
      refine Laid.calm ?_ rfl rfl rfl
      exact laid_slot n _ (by rfl) rfl rfl rfl rfl
    · exact hs
  · next hfree => exact sound_retireFree hs hb hfree
  · split
    · exact hs
    · split
      · next hplace =>
        simp only [placesCopy, Bool.and_eq_true, beq_iff_eq] at hplace
        refine hs.change ⟨hs.numbersRise, hs.tableForm⟩ rfl rfl rfl (fun _ => id) (fun hp => ?_) fun _ hl => ?_
        · rw [hplace.1] at hp
          cases hp
        · refine Tables.idleLaw (hl.tables.of_laid hs.tableForm (.of_same rfl rfl rfl rfl)) hb fun c target hc hpu => ?_
          obtain rfl := Option.some.inj hc
          cases hpu
      · exact hs
  · exact (calm_recordDamage n).sound hs
  · exact hs

theorem sound_scrubTaken (hs : SlotsSound s) (hb : s.burst = none) (n : Nat) (g : BitVec 8) (noCopy : Bool) (d : Delivery) :
    SlotsSound (scrubTaken n g noCopy d s) := by
  unfold scrubTaken
  split
  · exact hs
  · split
    · exact (calm_scrubCatalogue n _).sound hs
    · exact (calm_joinRelocations n).sound (sound_scrubTile hs hb n g noCopy d)

/-! ## A probe -/

theorem sound_probeTaken (hs : SlotsSound s) (hb : s.burst = none) (bank : Nat) (succeeded : Bool) :
    SlotsSound (probeTaken bank succeeded s) := by
  unfold probeTaken
  have hset := sound_setBank hs hb bank (if succeeded then .online else .offline)
  have hburst := (setBank_burst bank (if succeeded then .online else .offline) s).trans hb
  dsimp only
  split
  · exact (calm_respond _ _ _ (.inr (not_storing_of_none hburst))).sound hset
  · exact hset

/-! ## A store's write -/

theorem findObject_of_mem {o : ObjectRec} (h : (s.objects.map (·.number)).Pairwise (· < ·)) (ho : o ∈ s.objects) :
    s.findObject o.number = some o := by
  cases hf : s.findObject o.number with
  | none => exact absurd (List.mem_map_of_mem ho) (not_mem_numbers hf)
  | some q =>
    have hq := List.mem_of_find?_eq_some hf
    have hnum : q.number = o.number := by simpa using List.find?_some hf
    exact congrArg some (List.inj_on_of_nodup_map (h.imp Nat.ne_of_lt) hq ho hnum)

/-- The map entry of a tile whose write ends is written for the first time. -/
def firstWrite (object index : Nat) (s : State) : Bool :=
  match s.findObject object with
  | some o => !(o.tileMap.getD index ⟨0, false⟩).written
  | none => false

theorem calm_storeWriteEffect (object index slot : Nat) (whole : Bool) (s : State) :
    Calm (tileStored object index slot whole (firstWrite object index s) s) (storeWriteEffect object index slot whole s) := by
  have heq : storeWriteEffect object index slot whole s =
      if (s.slot slot).damage && whole then
        recountObject object (markDirty (markGroup slot) (tileStored object index slot whole (firstWrite object index s) s))
      else tileStored object index slot whole (firstWrite object index s) s := by
    unfold storeWriteEffect firstWrite tileStored
    rfl
  rw [heq]
  split
  · exact .trans ((laid_markDirty _).calm rfl rfl rfl) (calm_recountWhere _)
  · exact .refl _

/-- A tile of a store is a tile position of its object, or has no slot. -/
theorem tileSlot_cases (object index : Nat) (s : State) :
    (∃ o ∈ s.objects, ∃ m, o.number = object ∧ o.tileMap[index]? = some m ∧ m.slot = tileSlot s object index) ∨
      tileSlot s object index = 0 := by
  unfold tileSlot
  split
  · next o ho =>
    rw [List.getD_eq_getElem?_getD]
    cases hm : o.tileMap[index]? with
    | none => exact .inr rfl
    | some m => exact .inl ⟨o, List.mem_of_find?_eq_some ho, m, by simpa using List.find?_some ho, hm, rfl⟩
  · exact .inr rfl

/-- What the end of a store's write makes of an object's record. -/
def storedTile (object index slot : Nat) (fresh : Bool) (o : ObjectRec) : ObjectRec :=
  if o.number = object then (if fresh then writtenTile index slot o else o) else o

theorem tileStored_fields (object index slot : Nat) (whole fresh : Bool) (s : State) :
    tileStored object index slot whole fresh s = { s with
      slots := (s.setSlot slot { s.slot slot with written := true, damage := (s.slot slot).damage && !whole }).slots
      objects := s.objects.map (storedTile object index slot fresh), dirty := (tileStored object index slot whole fresh s).dirty } := by
  cases fresh with
  | true => rfl
  | false =>
    have hmap : s.objects.map (storedTile object index slot false) = s.objects :=
      (List.map_congr_left fun o _ => by simp [storedTile]).trans (List.map_id _)
    rw [hmap]
    rfl

theorem storedTile_number (object index slot : Nat) (fresh : Bool) (o : ObjectRec) : (storedTile object index slot fresh o).number = o.number := by
  unfold storedTile writtenTile
  split
  · split <;> rfl
  · rfl

theorem storedTile_key (object index slot : Nat) (fresh : Bool) (o : ObjectRec) : (storedTile object index slot fresh o).key = o.key := by
  unfold storedTile writtenTile
  split
  · split <;> rfl
  · rfl

/-- The map entry is the tile's slot, written, whether it was written before or not. -/
theorem storedTile_tileMap {object index : Nat} {o : ObjectRec} (h : (s.objects.map (·.number)).Pairwise (· < ·)) (ho : o ∈ s.objects) :
    (storedTile object index (tileSlot s object index) (firstWrite object index s) o).tileMap =
      if o.number = object then o.tileMap.set index ⟨tileSlot s object index, true⟩ else o.tileMap := by
  unfold storedTile
  split
  · next hobj =>
    subst hobj
    have hfind := findObject_of_mem h ho
    split
    · rfl
    · next hfresh =>
      simp only [firstWrite, hfind, Bool.not_eq_true, Bool.not_eq_false'] at hfresh
      simp only [tileSlot, hfind]
      rw [List.getD_eq_getElem?_getD] at hfresh ⊢
      cases hm : o.tileMap[index]? with
      | none =>
        rw [hm] at hfresh
        cases hfresh
      | some m =>
        obtain ⟨hlt, hget⟩ := List.getElem?_eq_some_iff.mp hm
        rw [hm] at hfresh
        have hentry : (⟨m.slot, true⟩ : MapEntry) = o.tileMap[index] := by
          rw [hget, ← (show m.written = true from hfresh)]
        exact (hentry ▸ List.set_getElem_self hlt).symm
  · rfl

theorem sound_tileStored {object index slot : Nat} (hs : SlotsSound s) (hb : s.burst = none)
    (hslot : Active s → tileSlot s object index = slot) (whole : Bool) :
    SlotsSound (tileStored object index slot whole (firstWrite object index s) s) := by
  have hframe := tileStored_fields object index slot whole (firstWrite object index s) s
  have hself := slot_tileStored (s := s) object index slot whole (firstWrite object index s)
  have hother {n : Nat} (hn : n ≠ slot) : (tileStored object index slot whole (firstWrite object index s) s).slot n = s.slot n := by
    rw [hframe]
    exact slot_setSlot_other s _ hn
  generalize tileStored object index slot whole (firstWrite object index s) s = t at *
  have hobjects : t.objects = s.objects.map (storedTile object index slot (firstWrite object index s)) := by rw [hframe]
  have hpool : t.pool = s.pool := by rw [hframe]
  have hform : Formed t := by
    refine ⟨?_, ?_⟩
    · rw [hobjects, map_number_of_map (storedTile_number _ _ _ _)]
      exact hs.numbersRise
    · rw [hframe]
      exact wf_setSlot s slot _ hs.tableForm
  have hkept {n : Nat} : (t.slot n).state = (s.slot n).state ∧ (t.slot n).owner = (s.slot n).owner := by
    by_cases hn : n = slot
    · rw [hn, hself]
      exact ⟨rfl, rfl⟩
    · rw [hother hn]
      exact ⟨rfl, rfl⟩
  refine hs.change hform (by rw [hframe]) (by rw [hframe]) (by rw [hframe]) (fun b h => by rw [hframe] at h; exact h)
    (fun _ h => by rw [hframe]; exact h) fun ha hl => Tables.idleLaw ?_ (by rw [hframe]; exact hb) fun c target hc hp => ?_
  · have hown := hl.owned
    obtain rfl := hslot ha
    refine hl.tables.retile (object := object) (index := index) (w := true) hobjects (storedTile_number _ _ _ _) (storedTile_key _ _ _ _)
      (fun o ho => storedTile_tileMap hs.numbersRise ho) (by rw [hframe]) (fun o ho hobj hlt => ?_) (fun o ho i m hm hni => ?_)
      (hpool ▸ hl.poolOnce) fun n hn => ?_
    · subst hobj
      have hm : o.tileMap[index]? = some o.tileMap[index] := List.getElem?_eq_getElem hlt
      have hts : tileSlot s o.number index = o.tileMap[index].slot := by
        simp only [tileSlot, findObject_of_mem hs.numbersRise ho, List.getD_eq_getElem?_getD, hm, Option.getD_some]
      obtain ⟨hst, how, -⟩ := hown o ho index _ hm
      rw [hself, hts]
      exact ⟨hl.tileSlots o ho _ (List.getElem_mem hlt), hst, how, rfl⟩
    · refine congrArg slotPlace (hother fun h => ?_)
      rcases tileSlot_cases object index s with ⟨o', ho', m', hobj', hm', hts⟩ | hts
      · obtain ⟨-, how', -⟩ := hown o' ho' index m' hm'
        obtain ⟨-, how, -⟩ := hown o ho i m hm
        rw [h, ← hts, how'] at how
        obtain ⟨hnum, hi⟩ : o'.number = o.number ∧ index = i := by simpa using how
        exact hni (hnum.symm.trans hobj') hi.symm
      · have h512 := hl.tileSlots o ho m (List.mem_of_getElem? hm)
        omega
    · rw [hpool] at hn
      rw [hkept.1]
      exact hl.poolFree n hn
  · obtain ⟨h512, hst, how⟩ := hl.copyTarget c target (by rw [hframe] at hc; exact hc) hp
    exact ⟨h512, hkept.1.trans hst, hkept.2.trans how⟩

theorem sound_storeWriteTaken {index slot : Nat} (hs : SlotsSound s) (hb : s.burst = none)
    (hslot : ∀ c, s.portA.op = .store c → Active s → tileSlot s c.object index = slot) (done : Bool) :
    SlotsSound (storeWriteTaken index slot done s) := by
  cases done with
  | false => exact (calm_storeWriteTaken_failed index slot (not_storing_of_none hb)).sound hs
  | true =>
    unfold storeWriteTaken
    split
    · next c hc =>
      rw [if_pos rfl]
      split
      · exact hs
      · next t _ =>
        have hstored := sound_tileStored hs hb (hslot c hc) (t.full && t.taken == 16384)
        have heffect := (calm_storeWriteEffect c.object index slot (t.full && t.taken == 16384) s).sound hstored
        have hburst : (storeWriteEffect c.object index slot (t.full && t.taken == 16384) s).burst = none :=
          (still_storeWriteEffect ..).burst.trans hb
        refine Calm.sound ?_ heffect
        exact .of_core rfl (fun hst => absurd hst (not_storing_of_none hburst)) id
    · exact hs

/-! ## The ends of the granted bursts -/

theorem active_readEnded {done : Bool} (h : Active (readEnded b done s)) : Active s := by
  rw [Active, readEnded_frame] at h
  exact h

theorem active_writeEnded {done : Bool} (h : Active (writeEnded b done s)) : Active s := by
  rw [Active, writeEnded_frame] at h
  exact h

theorem sound_endRead {take : Delivery → State → State} {r : ReadEnd} (hs : SlotsSound s)
    (h : ∀ d u, SlotsSound u → u = readEnded b (ReadEnd.isDelivered r) s → u.burst = none → SlotsSound (take d u)) :
    SlotsSound (endRead b r take s) := by
  rw [endRead_eq]
  exact sound_settle ((calm_spendRead r).sound (h _ _ (sound_readEnded hs b _) rfl (readEnded_burst b _ s)))

theorem sound_endWrite {take : State → State} {done : Bool} (hs : SlotsSound s)
    (h : ∀ u, SlotsSound u → u = writeEnded b done s → u.burst = none → SlotsSound (take u)) :
    SlotsSound (endWrite b done take s) := by
  rw [endWrite_eq]
  exact sound_settle (h _ (sound_writeEnded hs b done) rfl (writeEnded_burst b done s))

theorem sound_storeReadEnd (hs : SlotsSound s) (i : Nat) (r : ReadEnd) : SlotsSound (endRead b r (storeReadTaken i b.slot) s) :=
  sound_endRead hs fun d _ hu _ hb => (calm_storeReadTaken i b.slot d (not_storing_of_none hb)).sound hu

theorem sound_renderReadEnd (hs : SlotsSound s) (r : ReadEnd) : SlotsSound (endRead b r (renderReadTaken p b.slot) s) :=
  sound_endRead hs fun d _ hu _ _ => (calm_renderReadTaken b.slot d).sound hu

theorem sound_scrubEnd (hs : SlotsSound s) (g : BitVec 8) (noCopy : Bool) (r : ReadEnd) :
    SlotsSound (endRead b r (scrubTaken b.slot g noCopy) s) :=
  sound_endRead hs fun d _ hu _ hb => sound_scrubTaken hu hb b.slot g noCopy d

theorem sound_probeEnd (hs : SlotsSound s) (bank : Nat) (succeeded : Bool) : SlotsSound (endProbe (probeTaken bank succeeded) s) :=
  sound_settle (sound_probeTaken (sound_burstOver hs) rfl bank succeeded)

theorem sound_writebackEnd (hs : SlotsSound s) (kept : Nat) (dropped done : Bool) :
    SlotsSound (endWrite b done (writebackTaken b.slot kept dropped done) s) :=
  sound_endWrite hs fun _ hu _ _ => (calm_writebackTaken b.slot kept dropped done).sound hu

theorem sound_catalogueFlushEnd (hs : SlotsSound s) (done : Bool) : SlotsSound (endWrite b done (catalogueFlushTaken b.slot done) s) :=
  sound_endWrite hs fun _ hu _ _ => (calm_catalogueFlushTaken b.slot done).sound hu

theorem sound_billingFlushEnd (hs : SlotsSound s) (done : Bool) : SlotsSound (endWrite b done (billingFlushTaken done) s) :=
  sound_endWrite hs fun _ hu _ _ => (calm_billingFlushTaken done).sound hu

/-- The slot of a store's write is still the one that the tile map names when the burst has ended. -/
theorem sound_storeWriteEnd {i : Nat} (hs : SlotsSound s) (hb : s.burst = some b) (hw : b.work = .storeWrite i) (done : Bool) :
    SlotsSound (endWrite b done (storeWriteTaken i b.slot done) s) := by
  refine sound_endWrite hs fun u hu he hub => sound_storeWriteTaken hu hub (fun c hc ha => ?_) done
  subst he
  obtain ⟨c', hc', hslot⟩ := (hs.lawOf (active_writeEnded ha)).storeSlot b i hb hw
  have hop : (writeEnded b done s).portA.op = s.portA.op := (onlyNotices_writeEnded b done s).op .a
  rw [hop, hc'] at hc
  obtain rfl : c' = c := by simpa using hc
  rw [tileSlot_of_places (writeEnded_places b done s), hslot]

/-- A relocation's target belongs to it still when its read has ended, and there is no copy. -/
theorem sound_relocationReadEnd {target : Nat} {g : BitVec 8} {dropped noCopy : Bool} (hs : SlotsSound s) (hb : s.burst = some b)
    (hw : b.work = .relocationRead target g dropped noCopy) (r : ReadEnd) :
    SlotsSound (endRead b r (relocationReadTaken b.slot target g dropped noCopy) s) := by
  refine sound_endRead hs fun d u hu he hub => ?_
  subst he
  have hread (ha : Active (readEnded b (ReadEnd.isDelivered r) s)) := (hs.lawOf (active_readEnded ha)).readTarget b target g dropped noCopy hb hw
  refine sound_relocationReadTaken hu hub (fun ha => ?_) (fun ha => ?_) g dropped noCopy d
  · exact (calm_bankAfter (s := burstOver s) b _ (hread ha).1).buffer.trans (hread ha).1
  · exact targetOf_of_laid (s := burstOver s) hs.tableForm (calm_bankAfter (s := burstOver s) b _ (hread ha).1).laid (hread ha).2

/-- The same for its write. -/
theorem sound_relocationWriteEnd {old : Nat} {dropped : Bool} (hs : SlotsSound s) (hb : s.burst = some b)
    (hw : b.work = .relocationWrite old dropped) (done : Bool) :
    SlotsSound (endWrite b done (relocationWriteTaken old b.slot dropped done) s) := by
  refine sound_endWrite hs fun u hu he hub => ?_
  subst he
  have hcontent := calm_contentAfter (s := emptyWritten b (burstOver s)) b done
  have hempty := hcontent.buffer.trans (emptyWritten_buffer ⟨_, _, .inr hw⟩ (burstOver s))
  have hbank := calm_bankAfter b done hempty
  have hslots : (emptyWritten b (burstOver s)).slots = s.slots := by rw [emptyWritten_frame]; rfl
  refine sound_relocationWriteTaken hu hub (fun _ => hbank.buffer.trans hempty) (fun ha => ?_) dropped done
  refine targetOf_of_laid (s := emptyWritten b (burstOver s)) (hslots ▸ hs.tableForm) (hcontent.laid.trans hbank.laid) ?_
  have ht := ((hs.lawOf (active_writeEnded ha)).writeTarget b old dropped hb hw).1
  rw [TargetOf, State.slot, hslots]
  exact ht

theorem sound_endCarried (hs : SlotsSound s) (b : Burst) (done : Bool) : SlotsSound (endCarried b done s) :=
  sound_settle ((calm_contentAfter b done).sound (sound_burstOver hs))

end Sys2Proof.Machine

end

section
/-!
PROOF. The laws of the slots (O21), eighth part: preparation, whose reconcile establishes the laws.
-/

namespace Sys2Proof.Assoc

variable {α : Type} [DecidableEq α] {d : Nat → α} {l : List (Nat × α)} {f : Nat × α → Option (Nat × α)}

theorem wfAbove_filterMap (hf : ∀ x y, f x = some y → y.1 = x.1 ∧ y.2 ≠ d y.1) {n : Nat} (h : wfAbove d (some n) l = true) :
    wfAbove d (some n) (l.filterMap f) = true := by
  induction l generalizing n with
  | nil => rfl
  | cons x rest ih =>
    simp only [wfAbove, Bool.and_eq_true, decide_eq_true_eq] at h
    obtain ⟨⟨hlt, -⟩, hrest⟩ := h
    rw [List.filterMap_cons]
    split
    · exact wfAbove_mono (ih hrest) hlt.le
    · next y hy =>
      obtain ⟨hk, hv⟩ := hf x y hy
      simp only [wfAbove, Bool.and_eq_true, decide_eq_true_eq]
      exact ⟨⟨hk ▸ hlt, hv⟩, hk ▸ ih hrest⟩

/-- A selection of a table's entries, each under its own number and none a default, is canonical. -/
theorem wf_filterMap (hf : ∀ x y, f x = some y → y.1 = x.1 ∧ y.2 ≠ d y.1) (h : wf d l = true) : wf d (l.filterMap f) = true := by
  induction l with
  | nil => rfl
  | cons x rest ih =>
    obtain ⟨-, hrest⟩ := wf_cons h
    rw [List.filterMap_cons]
    split
    · exact ih (wf_of_wfAbove hrest)
    · next y hy =>
      obtain ⟨hk, hv⟩ := hf x y hy
      simp only [wf, wfAbove, Bool.and_eq_true, decide_eq_true_eq, true_and]
      exact ⟨hv, hk ▸ wfAbove_filterMap hf hrest⟩

end Sys2Proof.Assoc

namespace Sys2Proof.Machine

open Sys2Proof

variable {s t u : State} {p : Port} {b : Burst}

/-! ## The state of preparation -/

/-- The part prepares, with no burst in flight and no copy in the upkeep tile buffer. -/
structure InPreparation (s : State) : Prop where
  formed : Formed s
  noStoreOnB : ∀ c, s.portB.op ≠ .store c
  device : s.device = .preparing
  reset : s.resetAsserted = false
  burst : s.burst = none
  buffer : s.upkeep.buffer = none

theorem InPreparation.sound (h : InPreparation s) : SlotsSound s := by
  refine ⟨h.formed.numbersRise, h.formed.tableForm, h.noStoreOnB, fun _ => h.buffer, fun b hb => ?_, fun hr => ?_,
    fun hd => absurd h.device hd⟩
  · rw [h.burst] at hb
    cases hb
  · rw [h.reset] at hr
    cases hr

theorem SlotsSound.inPreparation (hs : SlotsSound s) (hd : s.device = .preparing) (hr : s.resetAsserted = false) (hb : s.burst = none) :
    InPreparation s := ⟨hs.formed, hs.noStoreOnB, hd, hr, hb, hs.preparingBuffer hd⟩

/-- Preparation goes on with other tables. -/
theorem InPreparation.tables (h : InPreparation s) (hf : Formed t) (hk : (t.device, t.resetAsserted, t.burst, t.upkeep.buffer, t.portB.op) =
    (s.device, s.resetAsserted, s.burst, s.upkeep.buffer, s.portB.op)) : InPreparation t := by
  simp only [Prod.mk.injEq] at hk
  obtain ⟨hd, hr, hb, hbuf, hop⟩ := hk
  exact ⟨hf, hop ▸ h.noStoreOnB, hd.trans h.device, hr.trans h.reset, hb.trans h.burst, hbuf.trans h.buffer⟩

theorem sound_fail (h : InPreparation s) : SlotsSound (fail s) :=
  sound_enterState (s := { s with prep := .finished }) ⟨h.formed.numbersRise, h.formed.tableForm⟩ h.noStoreOnB nofun h.reset
    (fun b hb => by cases h.burst.symm.trans hb) fun h => absurd rfl h

theorem sound_prep (h : InPreparation s) (prep : PrepStage) : SlotsSound { s with prep := prep } :=
  (h.tables (t := { s with prep := prep }) ⟨h.formed.numbersRise, h.formed.tableForm⟩ rfl).sound

/-! ## Probes and the marker -/

theorem inPreparation_setBank (h : InPreparation s) (n : Nat) (st : BankState) : InPreparation (setBank n st s) := by
  have hcalm := calm_setBank n st h.buffer
  exact (hcalm.sound h.sound).inPreparation (hcalm.device.trans h.device) (hcalm.reset.trans h.reset) (hcalm.burst.trans h.burst)

theorem sound_prepProbeTaken (h : InPreparation s) (bank : Nat) (succeeded : Bool) : SlotsSound (prepProbeTaken bank succeeded s) := by
  have hset := inPreparation_setBank h bank (if succeeded then .online else .offline)
  unfold prepProbeTaken
  dsimp only
  split
  · exact sound_fail hset
  · exact sound_prep hset _

theorem sound_prepMarkerTaken (h : InPreparation s) (r : ReadEnd) : SlotsSound (prepMarkerTaken r s) := by
  have hblank : InPreparation (blankTables s) := h.tables ⟨.nil, rfl⟩ rfl
  have hmarker (m : Option MarkerVersion) : SlotsSound (match m with
      | some .current => { s with prep := .load 1 }
      | some .other => fail s
      | none => { blankTables s with prep := .format 1 }) := by
    split
    · exact sound_prep h _
    · exact sound_fail h
    · exact sound_prep hblank _
  unfold prepMarkerTaken
  dsimp only
  split
  · exact hmarker _
  · exact hmarker _
  · exact sound_fail h

/-! ## The load -/

theorem formed_putObjects (os : List ObjectImage) (h : Formed s) : Formed (loadObjects os s) := by
  refine ⟨?_, h.tableForm⟩
  refine List.foldlRecOn os (fun t o => putObject (loadedObject o) t) (motive := fun os => (os.map (·.number)).Pairwise (· < ·))
    h.numbersRise fun os hos o _ => rising_insertBy ?_ ?_
  · exact hos.sublist (List.filter_sublist.map _)
  · intro hmem
    obtain ⟨q, hq, hn⟩ := List.mem_map.mp hmem
    simpa [hn] using (List.mem_filter.mp hq).2

theorem formed_loadMarks (ms : List SlotMarks) (h : Formed s) : Formed (loadMarks ms s) :=
  List.foldlRecOn ms _ (motive := Formed) h fun v hv m _ => formed_of_slots hv rfl (wf_setSlot v m.slot _ hv.tableForm)

theorem formed_loadUnknown (g n : Nat) (h : Formed s) : Formed (loadUnknown g n s) := by
  have hsame {t : State} (ho : t.objects = s.objects) (hs : t.slots = s.slots) : Formed t := formed_of_slots h ho (hs ▸ h.tableForm)
  unfold loadUnknown
  split
  · exact hsame rfl rfl
  · split
    · exact hsame rfl rfl
    · split
      · exact hsame rfl rfl
      · split
        · exact formed_putObjects _ h
        · exact formed_loadMarks _ h

theorem formed_loadGroup (g : Nat) (c : SlotContent) (h : Formed s) : Formed (loadGroup g c s) := by
  have hsame {t : State} (ho : t.objects = s.objects) (hs : t.slots = s.slots) : Formed t := formed_of_slots h ho (hs ▸ h.tableForm)
  unfold loadGroup
  split
  · exact h
  · exact formed_loadUnknown g _ h
  · exact h
  · exact hsame rfl rfl
  · exact hsame rfl rfl
  · exact hsame rfl rfl
  · exact formed_putObjects _ h
  · exact formed_loadMarks _ h

theorem Loads.inPreparation (hl : Loads s t) (h : InPreparation s) (hf : Formed t) : InPreparation t :=
  h.tables hf (by rw [hl.frame])

/-! ## Reconcile -/

theorem formed_startEntries (h : Formed s) : Formed (startEntries s) := by
  refine formed_of_slots h rfl (Assoc.wf_filterMap (fun x y hy => ?_) h.tableForm)
  obtain ⟨n, e⟩ := x
  simp only [Option.ite_none_left_eq_some, Option.some.injEq] at hy
  obtain ⟨-, hne, rfl⟩ := hy
  exact ⟨rfl, hne⟩

theorem checkEditions_same (s : State) : (checkEditions s).objects = s.objects ∧ (checkEditions s).slots = s.slots :=
  List.foldlRecOn s.editions _ (motive := fun t : State => t.objects = s.objects ∧ t.slots = s.slots) ⟨rfl, rfl⟩ fun v hv e _ => by
    split <;> exact hv

/-- The objects that stand are among those that were loaded, in their order. -/
theorem formed_checkObjects (h : Formed s) : Formed (checkObjects s) := by
  have hfold (os : List ObjectRec) (v : State) (hv : (v.objects.map (·.number) ++ os.map (·.number)).Pairwise (· < ·))
      (hw : Assoc.wf slotDefault v.slots = true) : Formed (os.foldl (fun s o =>
        if objectStands s o then { s with objects := s.objects ++ [o] } else markDirty (objectGroup o.number) s) v) := by
    induction os generalizing v with
    | nil => exact ⟨by simpa using hv, hw⟩
    | cons o rest ih =>
      rw [List.foldl_cons]
      split
      · exact ih _ (by simpa using hv) hw
      · refine ih _ (hv.sublist ?_) hw
        exact (List.Sublist.refl _).append (List.sublist_cons_self _ _)
  exact hfold s.objects { s with objects := [] } h.numbersRise h.tableForm

/-- An edition's object list names each of its objects once, and only those. -/
structure Listed (s : State) : Prop where
  once : ∀ e ∈ s.editions, (e.objects.map (·.number)).Nodup
  held : ∀ e ∈ s.editions, ∀ r ∈ e.objects, ∃ o, s.findObject r.number = some o ∧ o.key = e.key

theorem listed_rebuildLists (h : Formed s) : Listed (rebuildLists s) := by
  have hperm (e : EditionRec) : ((Assoc.sortBy refRank ((s.objects.filter fun o => o.key == e.key).map fun o =>
      (⟨o.number, o.kind, o.sequence⟩ : ObjectRef))).map (·.number)).Perm ((s.objects.filter fun o => o.key == e.key).map (·.number)) := by
    refine ((Assoc.sortBy_perm _).map _).trans (.of_eq ?_)
    rw [List.map_map]
    rfl
  refine ⟨fun e' he => ?_, fun e' he r hr => ?_⟩ <;> obtain ⟨e, -, rfl⟩ := List.mem_map.mp he
  · exact (hperm e).nodup_iff.mpr ((h.numbersRise.imp Nat.ne_of_lt).sublist (List.filter_sublist.map _))
  · obtain ⟨o, ho, hnum⟩ := List.mem_map.mp ((hperm e).mem_iff.mp (List.mem_map_of_mem hr))
    obtain ⟨hos, hkey⟩ := List.mem_filter.mp ho
    exact ⟨o, hnum ▸ findObject_of_mem h.numbersRise hos, by simpa using hkey⟩

/-- The lists stay right where the objects keep their numbers and editions. -/
theorem Listed.of_map {f : ObjectRec → ObjectRec} (h : Listed s) (ho : t.objects = s.objects.map f) (hnum : ∀ o, (f o).number = o.number)
    (hkey : ∀ o, (f o).key = o.key) (he : t.editions = s.editions) : Listed t := by
  refine ⟨fun e hmem => h.once e (he ▸ hmem), fun e hmem r hr => ?_⟩
  obtain ⟨o, hfo, hok⟩ := h.held e (he ▸ hmem) r hr
  refine ⟨f o, ?_, (hkey o).trans hok⟩
  rw [State.findObject, ho, find?_map_number hnum]
  exact congrArg (Option.map f) hfo

theorem placeOrphan_keeps {object index : Nat} (h : placeOrphan object index s = some t) (hf : Formed s) (hl : Listed s) :
    Formed t ∧ Listed t := by
  cases hs : s.pool with
  | nil => rw [placeOrphan_none hs] at h; cases h
  | cons n pool =>
    rw [placeOrphan_eq hs] at h
    obtain rfl := Option.some.inj h
    have hnum (o : ObjectRec) : (if o.number = object then orphanPlaced index n o else o).number = o.number := by split <;> rfl
    refine ⟨⟨?_, wf_setSlot s n _ hf.tableForm⟩, hl.of_map rfl hnum (fun o => by split <;> rfl) rfl⟩
    exact (map_number_of_map hnum).symm ▸ hf.numbersRise

theorem placeOrphans_keeps {orphans : List (Nat × Nat)} (h : placeOrphans orphans s = some t) (hf : Formed s) (hl : Listed s) :
    Formed t ∧ Listed t := by
  induction orphans generalizing s with
  | nil => obtain rfl := Option.some.inj h; exact ⟨hf, hl⟩
  | cons x rest ih =>
    rw [placeOrphans] at h
    split at h
    · cases h
    · next v hv =>
      obtain ⟨hfv, hlv⟩ := placeOrphan_keeps hv hf hl
      exact ih h hfv hlv

theorem Relisted.laid (h : Relisted s t) : Laid s t := by
  refine ⟨fun hw => ⟨h.form hw, fun n => ?_⟩, by rw [h.frame], fun e he => .inr ⟨e, by rw [h.frame] at he; exact he, rfl, rfl⟩, by rw [h.frame]⟩
  obtain ⟨pending, hn⟩ := h.slot n
  rw [hn]
  rfl

/-- Where every position has its slot, the pool is sound and the lists are right, the tables' laws hold. -/
theorem tables_of_placed (hp : Placed [] s) (hpool : PoolSound s) (hl : Listed s) : Tables s := by
  refine ⟨tilesOwned_of_placed hp, fun o ho m hm => ?_, hpool.once, hpool.free, hl.once, hl.held⟩
  obtain ⟨i, hi⟩ := List.mem_iff_getElem?.mp hm
  exact ((hp o ho i m hi).resolve_left List.not_mem_nil).1

/-- Reconcile establishes the laws of the tables (R22). -/
theorem reconcile_tables (hf : Formed s) (h : reconcile s = some t) : Formed t ∧ Tables t := by
  obtain ⟨hplaced, hpool⟩ := reconcile_placed h
  have hstart := formed_startEntries hf
  obtain ⟨ho, hs⟩ := checkEditions_same (startEntries s)
  have hobjects := formed_checkObjects (formed_of_slots hstart ho (hs ▸ hstart.tableForm))
  unfold reconcile at h
  dsimp only at h
  generalize checkObjects (checkEditions (startEntries s)) = c at *
  have hclaim := slotsOnly_claimAll c
  have hclaimed : Formed (claimAll c).1 := formed_of_slots hobjects (by rw [hclaim.frame]) (hclaim.form hobjects.tableForm)
  generalize (claimAll c).1 = v at *
  have hlisted : Listed (rebuildPool (rebuildLists v)) := (listed_rebuildLists hclaimed).of_map (f := id) (by rw [List.map_id, rebuildPool])
    (fun _ => rfl) (fun _ => rfl) (by rw [rebuildPool])
  have hform : Formed (rebuildPool (rebuildLists v)) := formed_of_slots hclaimed (by rw [rebuildPool]; rfl) (by
    rw [rebuildPool]
    exact hclaimed.tableForm)
  split at h
  · cases h
  · next w hw =>
    obtain rfl := Option.some.inj h
    obtain ⟨hfw, hlw⟩ := placeOrphans_keeps hw hform hlisted
    have hlaid := (laid_recountWhere (s := w) fun _ => true).trans (relisted_rebuildRelocations _).laid
    have hrelisted := (relisted_rebuildRelocations (recountWhere (fun _ => true) w)).frame
    refine ⟨hfw.of_laid hlaid, tables_of_placed hplaced hpool (hlw.of_map (f := fun o => { o with impairedCount := impairedTiles w o })
      ?_ (fun _ => rfl) (fun _ => rfl) ?_)⟩ <;>
    · rw [hrelisted]
      rfl

/-! ## The end of preparation -/

theorem laid_rebuildDamage (s : State) : Laid s (rebuildDamage s) := by
  have hobjects := laid_objects (s := s) (f := fun o => { o with
    withheld := (((damagedObjects s).drop 128).map (·.number)).contains o.number }) fun _ => rfl
  rw [rebuildDamage_eq]
  exact hobjects.trans (.of_same rfl rfl rfl rfl)

theorem inPreparation_reconcileYear (h : InPreparation s) : InPreparation (reconcileYear s) := by
  unfold reconcileYear
  split
  · exact h
  · exact h.tables ⟨h.formed.numbersRise, h.formed.tableForm⟩ rfl

theorem sound_endPreparation (h : InPreparation s) : SlotsSound (endPreparation s) := by
  have hyear := inPreparation_reconcileYear h
  cases hr : reconcile (reconcileYear s) with
  | none =>
    rw [endPreparation_none hr]
    exact sound_fail h
  | some u =>
    rw [endPreparation_some hr]
    obtain ⟨hf, ht⟩ := reconcile_tables hyear.formed hr
    have hu : InPreparation u := hyear.tables hf (by rw [(tablesOnly_reconcile hr).frame])
    have hlaid : Laid u { rebuildDamage (voidAll u) with prep := .finished } :=
      calm_voidAll.laid.trans ((laid_rebuildDamage _).trans (.of_same rfl rfl rfl rfl))
    have hend : InPreparation { rebuildDamage (voidAll u) with prep := .finished } := hu.tables (hf.of_laid hlaid) (by
      rw [rebuildDamage_eq, voidAll_frame])
    refine sound_enterState hend.formed hend.noStoreOnB (by split <;> exact nofun) hend.reset
      (fun b hb => by cases hend.burst.symm.trans hb) fun _ => ?_
    exact (ht.of_laid hf.tableForm hlaid).idleLaw hend.burst fun c _ hc => by cases hend.buffer.symm.trans hc

theorem sound_prepFormatTaken (h : InPreparation s) (g : Nat) (done : Bool) : SlotsSound (prepFormatTaken g done s) := by
  unfold prepFormatTaken
  split
  · exact sound_fail h
  · split
    · exact sound_endPreparation h
    · exact sound_prep h _

theorem sound_prepLoadTaken (h : InPreparation s) (g : Nat) (r : ReadEnd) : SlotsSound (prepLoadTaken g r s) := by
  have hload (errors : List WordError) : InPreparation
      (if heavyErrors errors then loadUnknown g s.freeCount s else loadGroup g (mediumRead s.medium g) s) := by
    split
    · exact (loads_loadUnknown _ _).inPreparation h (formed_loadUnknown _ _ h.formed)
    · exact (loads_loadGroup _ _).inPreparation h (formed_loadGroup _ _ h.formed)
  have hgo {w : State} (hw : InPreparation w) :
      SlotsSound (if g = lastGroup w then endPreparation w else { w with prep := .load (g + 1) }) := by
    split
    · exact sound_endPreparation hw
    · exact sound_prep hw _
  unfold prepLoadTaken
  dsimp only
  split
  · exact hgo (hload _)
  · split
    · exact hgo ((hload _).tables ⟨(hload _).formed.numbersRise, (hload _).formed.tableForm⟩ rfl)
    · exact hgo ((hload _).tables ⟨(hload _).formed.numbersRise, (hload _).formed.tableForm⟩ rfl)
  · exact sound_fail h

/-! ## The ends of preparation's bursts -/

/-- A burst of preparation is in flight in PREPARING alone, with RESET released. -/
theorem SlotsSound.prepares (hs : SlotsSound s) (hb : s.burst = some b) (hw : BurstWork.preparing b.work = true) :
    s.device = .preparing ∧ s.resetAsserted = false := by
  refine ⟨hs.preparingBurst b hb hw, Bool.eq_false_of_not_eq_true fun hr => ?_⟩
  obtain ⟨suspect, hc⟩ := (hs.inReset hr).2 b hb
  rw [hc] at hw
  cases hw

section
variable (hs : SlotsSound s) (hb : s.burst = some b) (hw : BurstWork.preparing b.work = true)
include hs hb hw

theorem sound_prepProbeEnd (bank : Nat) (succeeded : Bool) : SlotsSound (endProbe (prepProbeTaken bank succeeded) s) := by
  obtain ⟨hd, hr⟩ := hs.prepares hb hw
  exact sound_settle (sound_prepProbeTaken ((sound_burstOver hs).inPreparation hd hr rfl) bank succeeded)

theorem sound_prepReadEnd {take : State → State} {r : ReadEnd} (h : ∀ u, InPreparation u → SlotsSound (take u)) :
    SlotsSound (endRead b r (fun _ => take) s) := by
  obtain ⟨hd, hr⟩ := hs.prepares hb hw
  refine sound_endRead hs fun _ u hu he hub => h u (hu.inPreparation ?_ ?_ hub) <;>
  · rw [he, readEnded_frame]
    assumption

theorem sound_prepWriteEnd {take : State → State} {done : Bool} (h : ∀ u, InPreparation u → SlotsSound (take u)) :
    SlotsSound (endWrite b done take s) := by
  obtain ⟨hd, hr⟩ := hs.prepares hb hw
  refine sound_endWrite hs fun u hu he hub => h u (hu.inPreparation ?_ ?_ hub) <;>
  · rw [he, writeEnded_frame]
    assumption

end

end Sys2Proof.Machine

end

section
/-!
PROOF. The laws of the slots (O21), ninth part: the pins, the rows, and the step.
-/

namespace Sys2Proof.Machine

open Sys2Proof

variable {s t u : State} {p : Port} {b : Burst}

/-! ## The links -/

theorem op_of_canStart (h : canStart p s = true) : (s.port p).op = .idle := by
  simp only [canStart, Bool.and_eq_true, beq_iff_eq] at h
  obtain ⟨⟨⟨⟨⟨⟨-, hidle⟩, -⟩, -⟩, -⟩, -⟩, -⟩ := h
  exact hidle

theorem sound_submit {r : InRecord} {run : State → State} (hs : SlotsSound s) (h : (s.port p).op = .idle → SlotsSound (run s)) :
    SlotsSound (submit p r run s) := by
  unfold submit
  split
  · next hc => exact sound_settle (h (op_of_canStart hc))
  · exact sound_settle ((calm_receive r).sound hs)

theorem sound_submitCalm {r : InRecord} {run : State → State} (hs : SlotsSound s) (h : (s.port p).op = .idle → Calm s (run s)) :
    SlotsSound (submit p r run s) := sound_submit hs fun hop => (h hop).sound hs

theorem sound_takeInbound (hs : SlotsSound s) (r : InRecord) : SlotsSound (takeInbound p r s) := by
  rcases takeInbound_cases p r s with ⟨-, e⟩ | ⟨-, e⟩ | ⟨-, e⟩ <;> rw [e]
  · exact (calm_receive r).sound hs
  · split
    · exact calm_takeCancel.sound hs
    · exact hs
  · split
    · exact calm_takeRestart.sound hs
    · exact hs

/-! ## The pins -/

/-- RESET leaves empty tables, and of the burst in flight a carried write at most (R25). -/
theorem sound_resetState (s : State) : SlotsSound (resetState s) := by
  have hcarried (c : Burst) (hc : carriedBurst s = some c) : ∃ suspect, c.work = .carried suspect := by
    unfold carriedBurst at hc
    split at hc
    · cases hc
    · next b _ =>
      split at hc
      · cases hc
      · next hw => obtain rfl := Option.some.inj hc; exact ⟨_, hw⟩
      · obtain rfl := Option.some.inj hc; exact ⟨_, rfl⟩
  refine ⟨.nil, rfl, nofun, fun _ => rfl, fun _ _ _ => rfl, fun _ => ⟨rfl, hcarried⟩, fun h => absurd rfl h⟩

theorem sound_releaseReset (hs : SlotsSound s) (h : s.resetAsserted = true) : SlotsSound (releaseReset s) := by
  obtain ⟨hd, -⟩ := hs.inReset h
  exact ⟨hs.numbersRise, hs.tableForm, hs.noStoreOnB, fun _ => hs.preparingBuffer hd, fun _ _ _ => rfl, nofun, fun h => absurd rfl h⟩

theorem calm_latchStrap (bits : List Bool) : Calm s (latchStrap bits s) := .of_same rfl rfl rfl

theorem sound_takeStrapBit (hs : SlotsSound s) (bit : Bool) : SlotsSound (takeStrapBit bit s) := by
  unfold takeStrapBit
  split
  · split
    · exact Calm.sound (s := s) (.of_same rfl rfl rfl) hs
    · exact sound_settle ((calm_latchStrap _).sound hs)
  · exact hs

theorem calm_powerWarn (warned : Bool) : Calm s { s with powerWarn := warned } := .of_same rfl rfl rfl

theorem sound_powerWarnAsserted (hs : SlotsSound s) (h : execPowerWarnAsserted s = .next t) : SlotsSound t := by
  obtain rfl := Host.Outcome.next.inj h
  have hpin := (calm_powerWarn true).sound hs
  split
  · exact hs
  · dsimp only
    split
    · exact hpin
    · split
      · next hd => exact sound_settle (sound_enterFlushing hpin (by rw [Active, hd]; exact ⟨nofun, nofun⟩))
      all_goals exact hpin

theorem sound_powerWarnReleased (hs : SlotsSound s) (h : execPowerWarnReleased s = .next t) : SlotsSound t := by
  obtain rfl := Host.Outcome.next.inj h
  have hpin := (calm_powerWarn false).sound hs
  split
  · exact hs
  · dsimp only
    split
    · exact hpin
    · split
      · next hd => exact sound_settle (sound_enterActive hpin (by rw [Active, hd]; exact ⟨nofun, nofun⟩) nofun)
      all_goals exact hpin

/-! ## The burst timer and the passing of time -/

/-- The burst in flight may change in what the laws do not speak of. -/
theorem sound_sameBurst (hs : SlotsSound s) {b c : Burst} (hb : s.burst = some b) (hw : c.work = b.work) (hn : c.slot = b.slot) :
    SlotsSound { s with burst := some c } := by
  refine hs.withBurst c (fun hp => hs.preparingBurst b hb (hw ▸ hp)) (fun hr => ?_) (fun target g dropped noCopy h ha => ?_)
    (fun old dropped h ha => ?_) fun i h ha => ?_
  · rw [hw]
    exact (hs.inReset hr).2 b hb
  · rw [hn]
    exact (hs.lawOf ha).readTarget b target g dropped noCopy hb (hw ▸ h)
  · rw [hn]
    exact (hs.lawOf ha).writeTarget b old dropped hb (hw ▸ h)
  · rw [hn]
    exact (hs.lawOf ha).storeSlot b i hb (hw ▸ h)

theorem sound_tick (hs : SlotsSound s) : SlotsSound (tick s) := by
  have hburst : SlotsSound { s with burst := s.burst.map tickBurst } := by
    cases hb : s.burst with
    | none =>
      refine Calm.sound (s := s) (.of_same ?_ rfl rfl) hs
      simp only [State.core, hb, Option.map_none]
    | some b => exact sound_sameBurst hs (c := tickBurst b) hb rfl rfl
  have hbuffer : (tickUpkeep s.strap s.upkeep).buffer = s.upkeep.buffer := by
    unfold tickUpkeep
    split <;> rfl
  refine Calm.sound (s := { s with burst := s.burst.map tickBurst }) (.of_same ?_ rfl rfl) hburst
  simp only [State.core, tick, hbuffer]

/-- A burst that fails is taken as its end with a fault is. -/
theorem sound_failBurst (hs : SlotsSound s) (hb : s.burst = some b) : SlotsSound (failBurst b s) := by
  unfold failBurst
  split
  · next hw => exact sound_prepProbeEnd hs hb (by rw [hw]; rfl) _ _
  · next hw => exact sound_prepReadEnd hs hb (by rw [hw]; rfl) fun _ hu => sound_prepMarkerTaken hu _
  · next hw => exact sound_prepWriteEnd hs hb (by rw [hw]; rfl) fun _ hu => sound_prepFormatTaken hu _ _
  · next hw => exact sound_prepReadEnd hs hb (by rw [hw]; rfl) fun _ hu => sound_prepLoadTaken hu _ _
  · exact sound_storeReadEnd hs _ _
  · next hw => exact sound_storeWriteEnd hs hb hw _
  · exact sound_renderReadEnd hs _
  · exact sound_probeEnd hs _ _
  · exact sound_scrubEnd hs _ _ _
  · exact sound_writebackEnd hs _ _ _
  · next hw => exact sound_relocationReadEnd hs hb hw _
  · next hw => exact sound_relocationWriteEnd hs hb hw _
  · exact sound_catalogueFlushEnd hs _
  · exact sound_billingFlushEnd hs _
  · exact sound_endCarried hs _ _

theorem sound_burstTimeout (hs : SlotsSound s) (h : execBurstTimeout s = .next t) : SlotsSound t := by
  unfold execBurstTimeout at h
  split at h
  · next b hb =>
    obtain rfl := Host.Outcome.next.inj h
    split
    · exact sound_sameBurst hs (c := { b with retry := true, timer := 0 }) hb rfl rfl
    · exact sound_failBurst hs hb
  · cases h

/-! ## The rows -/

theorem calm_writeCurveStart {tag : Tag} (hop : (s.port p).op = .idle) (set polarity : Word) (knots : List Word) (lift : Word) :
    Calm s (writeCurveStart p tag set polarity knots lift s) := by
  unfold writeCurveStart
  split
  · exact calm_answer _ hop
  · exact calm_writeCurveRun hop _ _ _ _

/-- Every row keeps the slots sound. -/
theorem exec_sound {c : Instr} (hs : SlotsSound s) (h : exec c s = .next t) : SlotsSound t := by
  cases c with
  | openEdition => obtain rfl := Host.Outcome.next.inj h; exact sound_submitCalm hs fun hop => calm_openEditionRun hop _ _ _
  | closeEdition => obtain rfl := Host.Outcome.next.inj h; exact sound_submitCalm hs fun hop => calm_closeEditionRun hop _
  | amendEdition => obtain rfl := Host.Outcome.next.inj h; exact sound_submitCalm hs fun hop => calm_amendEditionRun hop _ _ _
  | putWindow => obtain rfl := Host.Outcome.next.inj h; exact sound_submitCalm hs fun hop => calm_putWindowRun hop _ _ _ _ _ _ _ _
  | serviceBank => obtain rfl := Host.Outcome.next.inj h; exact sound_submitCalm hs fun hop => calm_serviceBankRun hop _
  | lockEdition => obtain rfl := Host.Outcome.next.inj h; exact sound_submitCalm hs fun hop => calm_lockEditionRun hop _
  | unlockEdition => obtain rfl := Host.Outcome.next.inj h; exact sound_submitCalm hs fun hop => calm_unlockEditionRun hop _
  | scrubStrobe => obtain rfl := Host.Outcome.next.inj h; exact sound_submitCalm hs fun hop => calm_scrubStrobeRun hop
  | scrubBurst => obtain rfl := Host.Outcome.next.inj h; exact sound_submitCalm hs fun hop => calm_scrubBurstRun hop _
  | takeDamage => obtain rfl := Host.Outcome.next.inj h; exact sound_submitCalm hs fun hop => calm_takeDamageRun hop
  | writeCurve => obtain rfl := Host.Outcome.next.inj h; exact sound_submitCalm hs fun hop => calm_writeCurveStart hop _ _ _ _
  | writeFill => obtain rfl := Host.Outcome.next.inj h; exact sound_submitCalm hs fun hop => calm_writeFillRun hop _ _
  | orderReprint => obtain rfl := Host.Outcome.next.inj h; exact sound_submitCalm hs fun hop => calm_orderReprintRun hop _ _ _ _ _
  | takeCharge => obtain rfl := Host.Outcome.next.inj h; exact sound_submitCalm hs fun hop => calm_takeChargeRun hop
  | openAccount | suspendAccount | resumeAccount | closeAccount | clearTally =>
    obtain rfl := Host.Outcome.next.inj h; exact sound_submitCalm hs fun hop => calm_whenAdmitted hop fun _ => calm_changeAccount hop _ _ _ _
  | setDiscount => obtain rfl := Host.Outcome.next.inj h; exact sound_submitCalm hs fun hop => calm_setDiscountRun hop _ _
  | readTally => obtain rfl := Host.Outcome.next.inj h; exact sound_submitCalm hs fun hop => calm_readTallyRun hop _
  | writeSchedule => obtain rfl := Host.Outcome.next.inj h; exact sound_submitCalm hs fun hop => calm_writeScheduleRun hop _ _ _
  | setYear => obtain rfl := Host.Outcome.next.inj h; exact sound_submitCalm hs fun hop => calm_setYearRun hop _
  | readStatus => obtain rfl := Host.Outcome.next.inj h; exact sound_submitCalm hs fun hop => calm_answer _ hop
  | readEdition => obtain rfl := Host.Outcome.next.inj h; exact sound_submitCalm hs fun hop => calm_readEditionRun hop _
  | readObject => obtain rfl := Host.Outcome.next.inj h; exact sound_submitCalm hs fun hop => calm_readObjectRun hop _ _
  | listEditions => obtain rfl := Host.Outcome.next.inj h; exact sound_submitCalm hs fun hop => calm_listEditionsRun hop _
  | render => obtain rfl := Host.Outcome.next.inj h; exact sound_submitCalm hs fun hop => calm_renderRun hop _ _ _ _ _ _ _
  | readCurve => obtain rfl := Host.Outcome.next.inj h; exact sound_submitCalm hs fun hop => calm_readCurveRun hop _
  | readSchedule => obtain rfl := Host.Outcome.next.inj h; exact sound_submitCalm hs fun hop => calm_whenAdmitted hop fun _ => calm_answer _ hop
  | defineObject => obtain rfl := Host.Outcome.next.inj h; exact sound_submit hs fun hop => sound_defineObjectRun hop hs _ _ _ _ _ _
  | withdrawEdition => obtain rfl := Host.Outcome.next.inj h; exact sound_submit hs fun hop => sound_withdrawEditionRun hop hs _
  | unknownCommand => obtain rfl := Host.Outcome.next.inj h; exact sound_submit hs fun hop => sound_runRecord hop hs _
  | commandRecordReceived | dataRecordReceived | cancel | restart =>
    obtain rfl := Host.Outcome.next.inj h; exact sound_settle (sound_takeInbound hs _)
  | strayRecord =>
    obtain rfl := Host.Outcome.next.inj h
    split
    · exact sound_settle ((calm_raiseStray _).sound hs)
    · exact sound_settle ((calm_receive _).sound hs)
  | recordTaken p =>
    simp only [exec, execRecordTaken] at h
    split at h
    · obtain rfl := Host.Outcome.next.inj h; exact sound_settle ((calm_modPort rfl).sound hs)
    · cases h
  | outboundWordTaken p =>
    simp only [exec, execOutboundWordTaken] at h
    split at h
    · split at h
      · obtain rfl := Host.Outcome.next.inj h; exact (calm_modPort rfl).sound hs
      · cases h
    · cases h
  | resetAsserted =>
    obtain rfl := Host.Outcome.next.inj h
    split
    · exact hs
    · exact sound_resetState s
  | resetReleased =>
    obtain rfl := Host.Outcome.next.inj h
    split
    · next hr => exact sound_settle (sound_releaseReset hs hr)
    · exact hs
  | latchStrapWord bit =>
    simp only [exec, execLatchStrapWord] at h
    split at h
    · split at h
      · cases h
      · obtain rfl := Host.Outcome.next.inj h; exact sound_settle ((calm_latchStrap _).sound hs)
    · obtain rfl := Host.Outcome.next.inj h; exact hs
  | strapBitTaken bit => obtain rfl := Host.Outcome.next.inj h; exact sound_takeStrapBit hs bit
  | powerWarnAsserted => exact sound_powerWarnAsserted hs h
  | powerWarnReleased => exact sound_powerWarnReleased hs h
  | burstTimeout => exact sound_burstTimeout hs h
  | scrubTimerExpiry =>
    simp only [exec, execScrubTimerExpiry] at h
    split at h
    · obtain rfl := Host.Outcome.next.inj h; exact sound_settle (Calm.sound (s := s) (.of_same rfl rfl rfl) hs)
    · cases h
  | prepProbeComplete =>
    simp only [exec, execPrepProbeComplete] at h
    split at h
    · next hb => obtain rfl := Host.Outcome.next.inj h; exact sound_prepProbeEnd hs hb rfl _ _
    · cases h
  | prepMarkerReadComplete =>
    simp only [exec, execPrepMarkerReadComplete] at h
    split at h
    · next hb => obtain rfl := Host.Outcome.next.inj h; exact sound_prepReadEnd hs hb rfl fun _ hu => sound_prepMarkerTaken hu _
    · cases h
  | formatWriteComplete =>
    simp only [exec, execFormatWriteComplete] at h
    split at h
    · next hb => obtain rfl := Host.Outcome.next.inj h; exact sound_prepWriteEnd hs hb rfl fun _ hu => sound_prepFormatTaken hu _ _
    · cases h
  | loadReadComplete =>
    simp only [exec, execLoadReadComplete] at h
    split at h
    · next hb => obtain rfl := Host.Outcome.next.inj h; exact sound_prepReadEnd hs hb rfl fun _ hu => sound_prepLoadTaken hu _ _
    · cases h
  | readMergeComplete =>
    simp only [exec, execReadMergeComplete] at h
    split at h
    · obtain rfl := Host.Outcome.next.inj h; exact sound_storeReadEnd hs _ _
    · cases h
  | storeWriteComplete =>
    simp only [exec, execStoreWriteComplete] at h
    split at h
    · next hb => obtain rfl := Host.Outcome.next.inj h; exact sound_storeWriteEnd hs hb rfl _
    · cases h
  | probeComplete =>
    simp only [exec, execProbeComplete] at h
    split at h
    · obtain rfl := Host.Outcome.next.inj h; exact sound_probeEnd hs _ _
    · cases h
  | scrubVisitComplete =>
    simp only [exec, execScrubVisitComplete] at h
    split at h
    · obtain rfl := Host.Outcome.next.inj h; exact sound_scrubEnd hs _ _ _
    · cases h
  | writebackComplete =>
    simp only [exec, execWritebackComplete] at h
    split at h
    · obtain rfl := Host.Outcome.next.inj h; exact sound_writebackEnd hs _ _ _
    · cases h
  | relocationReadComplete =>
    simp only [exec, execRelocationReadComplete] at h
    split at h
    · next hb => obtain rfl := Host.Outcome.next.inj h; exact sound_relocationReadEnd hs hb rfl _
    · cases h
  | relocationWriteComplete =>
    simp only [exec, execRelocationWriteComplete] at h
    split at h
    · next hb => obtain rfl := Host.Outcome.next.inj h; exact sound_relocationWriteEnd hs hb rfl _
    · cases h
  | catalogueFlushComplete =>
    simp only [exec, execCatalogueFlushComplete] at h
    split at h
    · obtain rfl := Host.Outcome.next.inj h; exact sound_catalogueFlushEnd hs _
    · cases h
  | billingFlushComplete =>
    simp only [exec, execBillingFlushComplete] at h
    split at h
    · obtain rfl := Host.Outcome.next.inj h; exact sound_billingFlushEnd hs _
    · cases h
  | carriedWriteBurstEnd =>
    simp only [exec, execCarriedWriteBurstEnd] at h
    split at h
    · obtain rfl := Host.Outcome.next.inj h; exact sound_endCarried hs _ _
    · cases h
  | renderReadComplete =>
    simp only [exec, execRenderReadComplete] at h
    split at h
    · split at h
      · obtain rfl := Host.Outcome.next.inj h; exact sound_renderReadEnd hs _
      · cases h
    · cases h

/-- Settles O21: reconcile establishes the laws (`reconcile_tables`); a change that leaves the layout keeps them (`Calm.sound`); the
changes that move slots are taken one by one: a slot from the pool to a tile or to a relocation and back, a tile's first write, the
switch of a tile, and a withdrawal. -/
theorem stepKeepsSlotsSound : Obligations.StepKeepsSlotsSound := by
  intro s t hs h
  unfold step at h
  split at h
  · obtain rfl := Host.Outcome.next.inj h
    exact sound_tick hs
  · next c rest _ =>
    exact exec_sound (Calm.sound (s := s) (t := { s with pending := rest }) (.of_same rfl rfl rfl) hs) h

end Sys2Proof.Machine

end
